-- ==== Sys2Proof/Word.lean ====
section
/-! DEFINITION. The plainest types every other file uses: the byte of the control link, a bank of a fixed number of like
records, and the small records that commands carry (a clock source, a label record, a level change on an input line). -/

namespace Sys2Proof

/-- One byte on RXD or TXD (R169). -/
abbrev Byte := BitVec 8

/-- A fixed number `n` of like records, numbered from 0 (lanes, inputs, devices, cue slots, lines, flags). -/
structure Bank (α : Type) (n : Nat) where
  list : List α
  size : list.length = n
  deriving DecidableEq, Repr

namespace Bank

variable {α : Type} {n : Nat}

/-- A bank whose records are all `a`. -/
def fill (n : Nat) (a : α) : Bank α n := ⟨List.replicate n a, List.length_replicate⟩

/-- Record `i` of a bank; `d` where the bank has no record `i`. -/
def get (b : Bank α n) (i : Nat) (d : α) : α := b.list.getD i d

/-- The bank with `a` as its record `i`; unchanged where the bank has no record `i`. -/
def put (b : Bank α n) (i : Nat) (a : α) : Bank α n := ⟨b.list.set i a, by simp [b.size]⟩

/-- Every record of the bank replaced by its image. -/
def map (f : α → α) (b : Bank α n) : Bank α n := ⟨b.list.map f, by simp [b.size]⟩

/-- Every record of the bank replaced by its image, with its number. -/
def mapIdx (f : Nat → α → α) (b : Bank α n) : Bank α n := ⟨b.list.mapIdx f, by simp [b.size]⟩

end Bank

/-- The two clocks that may advance PT (R26). -/
inductive Source where
  | xo
  | ext
  deriving DecidableEq, Repr

/-- A label record as a frame carries it (R187): hours, minutes, seconds, frames and the drop-frame indicator. In a CUE_ADD
pattern 255 in the first three fields is ANY. -/
structure Label where
  hh : Nat
  mm : Nat
  ss : Nat
  ff : Nat
  ind : Nat
  deriving DecidableEq, Repr

/-- A level change on REF_IN or on a mark input, as it stands when the glitch filter is asked about it (R41, R104). The filter's
judgement in progress has no row of its own in the step table, so its facts ride on the edge command (log entry 6). -/
structure LevelChange where
  /-- the line rose (true) or fell (false) -/
  rise : Bool
  /-- how long the line has held its new level, in ns of the on-chip delay -/
  heldNs : Nat
  /-- the filter code in force when the change began, where REF_CONFIG has changed the code since (R41) -/
  oldFilter : Option Nat
  /-- the ticks PT has counted since the change began: the capture PT is PT less this, read in PT as it is now (R53, R112) -/
  age : Nat
  /-- whether PT was stalled when the change began (R43, R108) -/
  stalled : Bool
  /-- whether a REF_CONFIG of the polarity, a MARK_CONFIG, a RESTART or a reset has abandoned the change (R55, R103, R115) -/
  abandoned : Bool
  /-- whether the change is the reversal of one that did not hold for the filter's width: such a reversal is ignored as the change is, so a
  pulse shorter than the width leaves no edge of either polarity (R41, R104) -/
  reversal : Bool
  /-- whether the change began while the time was UNSET or before a time discontinuity taken since (R106) -/
  oldTime : Bool
  deriving DecidableEq, Repr

end Sys2Proof
end

