-- ==== Sys2Proof/Syntax.lean ====
section
/-! DEFINITION. The commands of the block: one constructor per row of spec/opcode_table.json. A request's operands are its fields in
the order its chapter names them, as the frame carries them: `Nat` for the unsigned classes of R186, `Int` for the signed ones. -/

namespace Sys2Proof

/-- The steps of the part: events at its pins and in its timers, and the requests that its blocks carry out. -/
inductive Instr where
  -- power, reset and the control link (Chapter 10)
  /-- application of power, with the levels of BAUD1 and BAUD0 when it ends -/
  | powerOn (baud1 baud0 : Bool)
  | resetAssert
  /-- RESET returns high, with the levels of BAUD1 and BAUD0 at that moment -/
  | resetRelease (baud1 baud0 : Bool)
  | rxdByte (b : Byte)
  /-- a byte whose stop bit is low; `brk`: the line stays low beyond the byte -/
  | framingError (brk : Bool)
  /-- the gap counter of the Link Port stands at `gap` bit periods with RXD high -/
  | interByteTimeout (gap : Nat)
  | requestTake
  | replySent
  | restartEffect
  | identify
  | status
  -- the attention flags (Chapter 9)
  | flags
  | ack (list : List Nat)
  | attnEnable (list : List Nat)
  | restart
  -- clock sources (Chapter 2)
  | sourceConfig (source enable wait : Nat)
  | sourceSelect (source : Nat)
  | sourceQuery
  | trimCal (source : Nat) (trim : Int)
  | startingToRunning (source : Source)
  | extMissingCycle
  | extActivityLoss
  | extActivityReturn
  -- house reference (Chapter 3)
  | refConfig (polarity filter : Nat) (delay : Int) (expected : Nat)
  | refQuery
  | refEdge (edge : LevelChange)
  | refWindowClose
  -- timebase and discipline (Chapter 4)
  | holdoverExpiry
  | timeSet (time : Nat)
  | timeGet
  | disciplineConfig (enable : Nat) (window threshold : Int) (limit : Nat)
  | tbQuery
  -- lanes (Chapter 5)
  | laneDefine (lane code : Nat) (customP : Int) (customB mode : Nat) (phase : Int) (sound rate pull origin : Nat) (label : Label)
  | laneClear (lane : Nat)
  | laneHold (lane : Nat)
  | laneSetLabel (lane : Nat) (label : Label)
  | laneRelease (lane : Nat)
  | laneJam (lane device : Nat)
  /-- the operands of the directions not asked for are not read -/
  | laneConvert (lane dir pt : Nat) (label : Label) (selector : Nat) (offset position : Int)
  | laneExceptions (lane maskInvalid maskRange maskInexact rounding clearInvalid clearRange clearInexact : Nat)
  | laneQuery (lane : Nat)
  | laneBoundary (lane : Nat)
  | framePulseEnd (output : Nat)
  | pulseAssign (output lane : Nat) (width : Int) (polarity cadence : Nat)
  -- mark inputs (Chapter 6)
  | markConfig (input enable edge filter holdoff decimation window : Nat)
  | markQuery (input : Nat)
  | markEdge (input : Nat) (edge : LevelChange)
  | holdoffEnd (input : Nat)
  | markExpiry (input : Nat)
  -- device tracking (Chapter 7)
  | deviceRegister (kind lane input position : Nat) (outlier offsetTol driftTol : Int) (span silence policy line : Nat) (width : Int)
  | deviceRemove (device : Nat)
  | deviceResetTrack (device : Nat)
  | deviceReport (device : Nat) (label : Label) (refKind capture pt : Nat)
  | deviceSilenceExpiry (device : Nat)
  | deviceQuery (device : Nat)
  | deviceRing (device : Nat)
  -- cues and output lines (Chapter 8)
  | cueAdd (slot kind pt lane : Nat) (label : Label) (offset position : Int) (action : Nat) (width : Int) (line flag count interval late : Nat)
  | cueCancel (slot : Nat)
  | cueModify (slot : Nat) (width : Int) (interval action : Nat)
  | cueQuery (slot : Nat)
  | cueList (start : Nat)
  | cueDue
  | cuePulseEnd (slot : Nat)
  | outputSet (line idle drive : Nat)
  | outputQuery (line : Nat)
  -- the clock's own cycle (Chapter 4) and the end of a break (Chapter 10)
  | sourceCycle (source : Source)
  | rxdReturnsHigh
  deriving DecidableEq, Repr

end Sys2Proof
end

