-- ==== Sys2Proof/Config.lean ====
section
/-! DEFINITION. What the manual leaves open: constants without a body, so that nothing can be proved of their values. -/

namespace Sys2Proof.Config

/-- FREE VALUE (log entry 2). The PT that results where counting, a step or a TIME_SET would carry PT outside 0 to 2^64 − 1: R1 and
R58 say that this does not happen in service and that the Timebase makes no check. The argument is the state's draw counter. -/
opaque freePt : Nat → BitVec 64

/-- FREE VALUE (log entry 3). Which of two announcements that the manual says need no order among themselves (R63, R71) is
applied first, asked only where the order shows. The argument is the draw counter. -/
opaque freeFirst : Nat → Bool

/-- FREE VALUE (log entry 3). The rank by which boundaries of different lanes that one forward step crosses are taken (R83 gives
them no order). The arguments are the draw counter and the lane. -/
opaque freeRank : Nat → Nat → Nat

/-- FREE VALUE (log entry 4). The bytes that stand in a reply's field when the value held does not fit the field's class (R186 states
none). The arguments are the class's width in bytes, the byte's place and the value. -/
opaque freeFieldByte : Nat → Nat → Int → Byte

end Sys2Proof.Config
end

