-- ==== Sys2Proof/Machine/State.lean ====
section
/-! DEFINITION. Everything the manual gives the part to hold, block by block, as plain data; the reasons a step can stop; and the state
after reset. Names follow the manual's tables: R26, R40, R57, R79, R100, R103, R117, R121, R140, R148, R162, R170. -/

namespace Sys2Proof.Machine

/-- Why a step would stop with a fault. No command of this block does: every command the manual names has an effect, a refusal status in
its reply, or, at a moment where its event cannot happen, no effect. So the type has no reason in it. -/
inductive Fault where
  deriving DecidableEq, Repr

/-- Why a step is refused. -/
inductive Refusal where
  /-- raised by exec for a command that has no meaning in the model; safe (it only stops) -/
  | notModelled (mnemonic : String)
  deriving DecidableEq, Repr

/-! ### Attention Unit (Chapter 9) -/

/-- The 24 attention flags, in the order of their numbers (R162). -/
inductive Flag where
  | sourceReady | sourceFailed | sourceFallback | ptStall
  | refQualified | refLost | refMismatch | lockAcquired
  | lockLost | holdoverExpired | ptStep | timeDiscontinuity
  | laneReleased | laneException | markExpired | markOverflow
  | deviceTolerance | deviceStep | deviceLost | cueFired
  | cueLate | cueDropped | cueTableFull | linkOverrun
  deriving DecidableEq, Repr

/-- The three parts of one attention flag (R162). -/
structure FlagRec where
  set : Bool
  seen : Bool
  enable : Bool
  deriving DecidableEq, Repr

/-! ### Source Controller (Chapter 2) -/

inductive SrcState where
  | off | starting | running | failed
  deriving DecidableEq, Repr

/-- The record of one clock source (R26). -/
structure SourceRec where
  enable : Bool
  state : SrcState
  wait : Nat
  progress : Nat
  cal : Int
  deriving DecidableEq, Repr

/-- The Source Controller: both records, EXT's count of consecutive missing cycles and the selection (R26). -/
structure Sources where
  xo : SourceRec
  ext : SourceRec
  missing : Nat
  selection : Source
  deriving DecidableEq, Repr

/-! ### Reference Monitor (Chapter 3) -/

inductive RefState where
  | absent | qualifying | present
  deriving DecidableEq, Repr

/-- The Reference Monitor (R40). The house period P_h is the rate table's period of the house rate. -/
structure RefMon where
  /-- true for FALLING -/
  falling : Bool
  filter : Nat
  delay : Int
  /-- 0 for AUTO, or a house-capable code -/
  expected : Nat
  state : RefState
  prev : Option Int
  candidate : Option Nat
  qualify : Nat
  mismatch : Bool
  house : Option Nat
  expectedPt : Option Int
  misses : Nat
  lastAccepted : Option Int
  lastPeriod : Int
  lastError : Int
  deriving DecidableEq, Repr

/-! ### Timebase (Chapter 4) -/

inductive DiscState where
  | freerun | locking | locked | holdover
  deriving DecidableEq, Repr

/-- The Timebase (R57). -/
structure Timebase where
  pt : Nat
  /-- the tick fraction, in units of 10^-10 tick, in which every cycle's amount (R58) is a whole number -/
  frac : Nat
  /-- time validity SET -/
  set : Bool
  enable : Bool
  state : DiscState
  /-- reference view PRESENT -/
  refPresent : Bool
  i : Int
  p : Int
  trim : Int
  /-- the entry marker -/
  entry : Bool
  inWin : Nat
  outWin : Nat
  elapsed : Nat
  window : Int
  threshold : Int
  /-- the holdover limit in seconds -/
  limit : Nat
  deriving DecidableEq, Repr

/-! ### Lane Unit (Chapter 5) -/

inductive LaneState where
  | free | waiting | running | held | releasing
  deriving DecidableEq, Repr

/-- The rounding modes of R19. -/
inductive Rounding where
  | nearestEven | down | up | towardZero
  deriving DecidableEq, Repr

/-- The exception conditions of R21. -/
inductive Cond where
  | invalid | range | inexact
  deriving DecidableEq, Repr

/-- One Bool per exception condition: masks, sticky flags, or the conditions a conversion met. -/
structure Conds where
  invalid : Bool
  range : Bool
  inexact : Bool
  deriving DecidableEq, Repr

/-- The sound part of a lane (R16): the sample rate is 96,000 or 48,000, the pull code 0 none, 1 down, 2 up. -/
structure Sound where
  rate96 : Bool
  pull : Nat
  deriving DecidableEq, Repr

/-- A lane mapping: boundary index `k0` carries label count `c0` (section 1.4). -/
structure Mapping where
  k0 : Int
  c0 : Nat
  deriving DecidableEq, Repr

/-- A latched boundary record (R85); `sample` is the sample position and whether its quotient was whole, on a sound lane. -/
structure Latched where
  index : Int
  pt : Int
  count : Nat
  sample : Option (Int × Bool)
  deriving DecidableEq, Repr

/-- A lane record (R79). -/
structure Lane where
  state : LaneState
  /-- the rate code, 0 for none -/
  code : Nat
  period : Nat
  base : Nat
  /-- label mode DF -/
  df : Bool
  phase : Nat
  /-- origin kind AT_NEXT -/
  atNext : Bool
  mapping : Option Mapping
  rounding : Rounding
  /-- true where the condition is masked -/
  masks : Conds
  sticky : Conds
  sound : Option Sound
  pendingLabel : Option Nat
  frozen : Option Nat
  latched : Option Latched
  next : Option Int
  deriving DecidableEq, Repr

/-- A frame-pulse output (R100). A pulse is in progress exactly while `level` is the active level. -/
structure FramePulse where
  lane : Option Nat
  width : Nat
  activeLow : Bool
  cadence : Nat
  level : Bool
  remaining : Nat
  deriving DecidableEq, Repr

/-! ### Mark Capture Unit (Chapter 6) -/

inductive MarkState where
  | disabled | armed | holdoff
  deriving DecidableEq, Repr

inductive EdgeSelect where
  | rising | falling | both
  deriving DecidableEq, Repr

/-- A pending mark (R103). -/
structure Mark where
  number : Nat
  pt : Int
  deriving DecidableEq, Repr

/-- A mark-input record (R103); `fifo` is oldest first. -/
structure MarkInput where
  enable : Bool
  state : MarkState
  edge : EdgeSelect
  filter : Nat
  holdoff : Nat
  decimation : Nat
  window : Nat
  counter : Nat
  remaining : Nat
  nextNumber : Nat
  fifo : List Mark
  deriving DecidableEq, Repr

/-! ### Device Tracker (Chapter 7) -/

inductive DeviceKind where
  | camera | recorder | slate | suite
  deriving DecidableEq, Repr

inductive DeviceState where
  | unseen | acquiring | tracking | outOfTolerance | rejamPending | lost
  deriving DecidableEq, Repr

inductive Tag where
  | valid | outlier | empty
  deriving DecidableEq, Repr

/-- One observation (R121); `source` is the capture number of its mark, or none for EXPLICIT. -/
structure Obs where
  pt : Int
  count : Nat
  offset : Int
  residual : Option Int
  tag : Tag
  source : Option Nat
  deriving DecidableEq, Repr

/-- A registered device (R117). The ring is held newest first; its observation number `j` stands in slot `(top + j) mod 8` (R121). -/
structure Device where
  kind : DeviceKind
  lane : Nat
  input : Option Nat
  midFrame : Bool
  outlierLimit : Int
  offsetTol : Int
  driftTol : Int
  /-- the minimum span in seconds -/
  span : Nat
  /-- the silence limit in seconds -/
  silence : Nat
  /-- the re-jam line and width under REJAM; none under REPORT -/
  rejam : Option (Nat × Nat)
  state : DeviceState
  top : Nat
  ring : List Obs
  offsetEst : Option Int
  driftEst : Option Int
  outliers : Nat
  /-- the silence remaining in ticks; none when stopped -/
  silenceLeft : Option Nat
  cue : Option Nat
  deriving DecidableEq, Repr

/-! ### Cue Scheduler (Chapter 8) -/

/-- The states of a slot that is not FREE (R140). -/
inductive CueState where
  | waiting | suspended | pulsing
  deriving DecidableEq, Repr

/-- The three anchors of R141; a label pattern carries 255 for ANY. -/
inductive Anchor where
  | absolute (pt : Nat)
  | label (lane : Nat) (pattern : Label) (offset : Int)
  | sample (lane : Nat) (position : Int)
  deriving DecidableEq, Repr

inductive Action where
  | none | high | low | toggle | pulse
  deriving DecidableEq, Repr

/-- A staged block (R158). -/
structure Staged where
  width : Nat
  interval : Nat
  action : Action
  deriving DecidableEq, Repr

/-- A cue slot that is not FREE (R140). -/
structure Cue where
  state : CueState
  /-- the owning device, none for HOST -/
  owner : Option Nat
  anchor : Anchor
  /-- the label count or sample position of the current anchor -/
  current : Option Int
  action : Action
  width : Nat
  line : Option Nat
  flagOnFire : Bool
  repeatCount : Nat
  /-- firings left, none for unbounded -/
  left : Option Nat
  interval : Nat
  /-- late policy DROP -/
  drop : Bool
  staged : Option Staged
  due : Option Nat
  remaining : Nat
  deriving DecidableEq, Repr

/-- A cue output line (R148); true is HIGH. -/
structure Line where
  idle : Bool
  level : Bool
  holder : Option Nat
  deriving DecidableEq, Repr

/-! ### Link Port (Chapter 10) -/

/-- The hunter's state with the length byte and the bytes collected so far (R170, R171). -/
inductive Hunter where
  | hunt
  | length
  | collect (len : Nat) (bytes : List Byte)
  | check (len : Nat) (bytes : List Byte) (high : Option Byte)
  deriving DecidableEq, Repr

/-- A good frame: its kind, its tag and its body (section 10.8). -/
structure Frame where
  kind : Byte
  tag : Byte
  body : List Byte
  deriving DecidableEq, Repr

/-- The status codes of section 10.8, in the order of their codes. -/
inductive Status where
  | ok | malformed | unknownKind | badValue | noSuch | wrongState | inUse | full
  | notReady | timeUnset | invalidLabel | range | inexact | noMark | noEstimate | ignored
  deriving DecidableEq, Repr

/-- A field of a request or a reply, by its class (R186). -/
inductive Fld where
  | code (n : Nat)
  | short (n : Nat)
  | word (n : Nat)
  | ppb (v : Int)
  | ticks (v : Int)
  | index (v : Int)
  | sample (v : Int)
  | interval (n : Nat)
  | pt (n : Int)
  | ptSigned (v : Int)
  | label (l : Label)
  deriving DecidableEq, Repr

/-- An owning block's answer to a request: the status and the result fields of its reply (R177). -/
structure Answer where
  status : Status
  fields : List Fld
  deriving DecidableEq, Repr

/-- A reply frame, with the status and the result fields as bytes (R177). -/
structure Reply where
  kind : Byte
  tag : Byte
  body : List Byte
  deriving DecidableEq, Repr

/-- Where a RESTART stands between its taking and its effect (R182). -/
inductive Restart where
  /-- none taken -/
  | idle
  /-- taken; its reply has not begun transmission -/
  | taken
  /-- its reply has begun transmission: the restart acts now -/
  | due
  deriving DecidableEq, Repr

/-- The Link Port (R170), with the sampled rate code (R169) and whether a break is being waited out (R174). -/
structure Link where
  rate : Nat
  hunter : Hunter
  gap : Nat
  breakWait : Bool
  queue : List Frame
  handling : Option Frame
  sending : Option Reply
  waiting : Option Reply
  restart : Restart
  deriving DecidableEq, Repr

/-! ### The whole part -/

/-- The state of the part. The last four fields are the model's own (log entries 1, 2 and 5). -/
structure State where
  /-- a recognized low level on RESET lasts (R184) -/
  resetLow : Bool
  src : Sources
  ref : RefMon
  tb : Timebase
  lanes : Bank Lane 16
  fps : Bank FramePulse 4
  marks : Bank MarkInput 8
  devices : Bank (Option Device) 32
  /-- none is a FREE slot -/
  cues : Bank (Option Cue) 64
  /-- the due list: slots, head first (R145) -/
  dues : List Nat
  lines : Bank Line 8
  attn : Bank FlagRec 24
  link : Link
  /-- MODEL: the answer of the owning block to the request carried out last -/
  answer : Option Answer
  /-- MODEL: how many free values have been drawn -/
  draws : Nat
  /-- MODEL: the commands that are waiting, first in, first out -/
  pending : List Instr
  deriving DecidableEq, Repr

/-! ### Reset values -/

def SourceRec.resetXo : SourceRec := ⟨true, .starting, 3, 0, 0⟩
def SourceRec.resetExt : SourceRec := ⟨false, .off, 3, 0, 0⟩

/-- R26. -/
def Sources.reset : Sources := ⟨.resetXo, .resetExt, 0, .xo⟩

/-- R40. -/
def RefMon.reset : RefMon :=
  { falling := false, filter := 1, delay := 0, expected := 0, state := .absent, prev := none, candidate := none, qualify := 0,
    mismatch := false, house := none, expectedPt := none, misses := 0, lastAccepted := none, lastPeriod := 0, lastError := 0 }

/-- R57. -/
def Timebase.reset : Timebase :=
  { pt := 0, frac := 0, set := false, enable := true, state := .freerun, refPresent := false, i := 0, p := 0, trim := 0,
    entry := false, inWin := 0, outWin := 0, elapsed := 0, window := 270, threshold := 5400, limit := 600 }

def Conds.all : Conds := ⟨true, true, true⟩
def Conds.none : Conds := ⟨false, false, false⟩

/-- R79, after power-on. -/
def Lane.reset : Lane :=
  { state := .free, code := 0, period := 0, base := 0, df := false, phase := 0, atNext := false, mapping := none,
    rounding := .nearestEven, masks := .all, sticky := .none, sound := none, pendingLabel := none, frozen := none,
    latched := none, next := none }

/-- R79: the values of a FREE lane, with the masks, rounding mode and sticky flags that belong to the lane number kept. -/
def Lane.freed (l : Lane) : Lane := { Lane.reset with rounding := l.rounding, masks := l.masks, sticky := l.sticky }

/-- R100. -/
def FramePulse.reset : FramePulse :=
  { lane := none, width := 54, activeLow := false, cadence := 1, level := false, remaining := 0 }

/-- R103. -/
def MarkInput.reset : MarkInput :=
  { enable := false, state := .disabled, edge := .rising, filter := 1, holdoff := 0, decimation := 1, window := 108000000,
    counter := 0, remaining := 0, nextNumber := 0, fifo := [] }

/-- R148. -/
def Line.reset : Line := ⟨false, false, none⟩

/-- R162. -/
def FlagRec.reset : FlagRec := ⟨false, false, false⟩

/-- R170, with a rate code. -/
def Link.reset (rate : Nat) : Link :=
  { rate := rate, hunter := .hunt, gap := 0, breakWait := false, queue := [], handling := none, sending := none, waiting := none,
    restart := .idle }

/-- The machine right after a power-on: every block at its power-on values (R184). The straps are taken as both low (log entry 8). -/
def State.reset : State :=
  { resetLow := false, src := .reset, ref := .reset, tb := .reset, lanes := .fill 16 .reset, fps := .fill 4 .reset,
    marks := .fill 8 .reset, devices := .fill 32 none, cues := .fill 64 none, dues := [], lines := .fill 8 .reset,
    attn := .fill 24 .reset, link := .reset 0, answer := none, draws := 0, pending := [] }

end Sys2Proof.Machine
end

