-- ==== Sys2Proof/Machine/Arith.lean ====
section
/-! DEFINITION. The manual's arithmetic words (00_scope, Conventions) and its roundings (R19, R20), over exact whole numbers. Lean's
`/` and `%` on `Int` with a divisor above 0 are the floor and the remainder from 0. -/

namespace Sys2Proof.Machine

/-- 2^64, one past the largest PT (R1). -/
def ptLimit : Nat := 2 ^ 64

/-- 54,000,000 ticks a second (section 1.1). -/
def ticksPerSecond : Nat := 54000000

/-- 54,000 ticks a millisecond. -/
def ticksPerMs : Nat := 54000

/-- "ceiling" of `a / b`, toward +∞. -/
def ceilDiv (a b : Int) : Int := -((-a) / b)

/-- "clamp to a range". -/
def clampInt (lo hi v : Int) : Int := if v < lo then lo else if hi < v then hi else v

/-- A clamp to a range of unsigned values. -/
def clampNat (lo hi : Nat) (v : Int) : Nat := (clampInt lo hi v).toNat

/-- "a mod b" of a signed value, as an unsigned one. -/
def wrap (v : Int) (n : Nat) : Nat := (v % n).toNat

/-- "the nearest signed value modulo n", from −(n div 2) to n − 1 − (n div 2). -/
def nearestMod (v : Int) (n : Nat) : Int := (v + (n / 2 : Nat)) % n - (n / 2 : Nat)

/-- NEAREST_EVEN of `num / den` (R19). -/
def roundEven (num den : Int) : Int :=
  let q := num / den
  let r := 2 * (num % den)
  if r < den then q else if den < r then q + 1 else if q % 2 = 0 then q else q + 1

/-- A lane's rounding mode applied to `num / den` (R19). -/
def Rounding.apply (m : Rounding) (num den : Int) : Int :=
  match m with
  | .nearestEven => roundEven num den
  | .down => num / den
  | .up => ceilDiv num den
  | .towardZero => num.tdiv den

/-- To the nearest whole number, ties away from zero (R20). -/
def roundAway (num den : Int) : Int :=
  if 0 ≤ num then (2 * num + den) / (2 * den) else -((2 * -num + den) / (2 * den))

/-- The signed remainder of `v` by `p` in (−p/2, +p/2]: the distance from the nearest multiple, an exact half positive (R52, R62). -/
def halfUp (v : Int) (p : Nat) : Int :=
  let r := v % p
  if 2 * r ≤ p then r else r - p

/-- One Bool as a code. -/
def bit (b : Bool) : Nat := if b then 1 else 0

end Sys2Proof.Machine
end

