-- ==== Sys2Proof/Machine/Labels.lean ====
section
/-! DEFINITION. Rates, labels and label counts (sections 1.2 and 1.3). -/

namespace Sys2Proof.Machine

/-- The rate table of R3: the period P and the label base B of a house-capable code. -/
def rate : Nat → Option (Nat × Nat)
  | 1 => some (2252250, 24)
  | 2 => some (2250000, 24)
  | 3 => some (2160000, 25)
  | 4 => some (1801800, 30)
  | 5 => some (1800000, 30)
  | 6 => some (1126125, 48)
  | 7 => some (1125000, 48)
  | 8 => some (1080000, 50)
  | 9 => some (900900, 60)
  | 10 => some (900000, 60)
  | _ => none

/-- The frame period of a house-capable code; 0 for any other code. -/
def ratePeriod (code : Nat) : Nat := ((rate code).map Prod.fst).getD 0

/-- The label base of a house-capable code; 0 for any other code. -/
def rateBase (code : Nat) : Nat := ((rate code).map Prod.snd).getD 0

/-- The house-capable codes (R3). -/
def houseCodes : List Nat := [1, 2, 3, 4, 5, 6, 7, 8, 9, 10]

/-- A code that allows drop-frame labels (R3). -/
def dropAllowed (code : Nat) : Bool := code == 4 || code == 9

/-- The constant d of R3. -/
def dropD (code : Nat) : Nat := if code = 4 then 2 else 4

/-- The constant F10 of R8. -/
def dropF10 (code : Nat) : Nat := if code = 4 then 17982 else 35964

/-- The constant F1 of R8. -/
def dropF1 (code : Nat) : Nat := if code = 4 then 1798 else 3596

/-- N_day, the labels in one labelled day (R6). -/
def Lane.nDay (l : Lane) : Nat :=
  if l.df then (if l.code = 4 then 2589408 else 5178816) else l.base * 86400

/-- The label of a nominal count with base `b` (R7). -/
def nominalLabel (b ind n : Nat) : Label := ⟨n / b / 3600, n / b / 60 % 60, n / b % 60, n % b, ind⟩

/-- The nominal count of a label with base `b` (R7, R10). -/
def nominalCount (b : Nat) (lab : Label) : Nat := ((lab.hh * 60 + lab.mm) * 60 + lab.ss) * b + lab.ff

/-- The nominal count of a drop-frame count (R9). -/
def dropNominal (code c : Nat) : Nat :=
  let q := c / dropF10 code
  let m := c % dropF10 code
  let d := dropD code
  if m < d then c + 9 * d * q else c + 9 * d * q + d * ((m - d) / dropF1 code)

/-- From a label count to its label (R7, R9). -/
def Lane.labelOf (l : Lane) (c : Nat) : Label :=
  if l.df then nominalLabel l.base 1 (dropNominal l.code c) else nominalLabel l.base 0 c

/-- From an existing label to its label count (R7, R10). -/
def Lane.countOf (l : Lane) (lab : Label) : Nat :=
  let n := nominalCount l.base lab
  if l.df then
    let m := 60 * lab.hh + lab.mm
    n - dropD l.code * (m - m / 10)
  else n

/-- A label well-formed for a lane (R5). -/
def Lane.wellFormed (l : Lane) (lab : Label) : Bool :=
  decide (lab.hh < 24) && decide (lab.mm < 60) && decide (lab.ss < 60) && decide (lab.ff < l.base) && lab.ind == bit l.df

/-- A well-formed label exists unless it is dropped (R8). -/
def Lane.labelExists (l : Lane) (lab : Label) : Bool :=
  !(l.df && lab.ss == 0 && decide (lab.ff < dropD l.code) && lab.mm % 10 != 0)

/-- The INVALID default: the next existing label (R21). -/
def Lane.nextExisting (l : Lane) (lab : Label) : Label := { lab with ff := dropD l.code }

/-- ANY in a label pattern (R187). -/
def anyField : Nat := 255

/-- A pattern with at least one ANY field (R141). -/
def patternWild (p : Label) : Bool := p.hh == anyField || p.mm == anyField || p.ss == anyField

/-- A pattern field matches a label's field (R142). -/
def fieldMatches (p v : Nat) : Bool := p == anyField || p == v

/-- A wildcard pattern matches a label (R142). -/
def patternCovers (p lab : Label) : Bool :=
  fieldMatches p.hh lab.hh && fieldMatches p.mm lab.mm && fieldMatches p.ss lab.ss && p.ff == lab.ff

/-- A pattern matches some existing label (R142): none is matched with second 00, ff below d and a fixed minute that drops. For a
pattern without ANY this is R8. -/
def Lane.patternExists (l : Lane) (p : Label) : Bool := p.mm == anyField || l.labelExists p

end Sys2Proof.Machine
end

