-- ==== Sys2Proof/Machine/Codes.lean ====
section
/-! DEFINITION. The codes by which requests and replies name states and settings (R26, R40, R57, R79, R103, R117, R140), both ways, and
the replies' conventions for absent values (R177). -/

namespace Sys2Proof.Machine

def sourceCode : Source → Nat
  | .xo => 0 | .ext => 1

/-- The source of a code of 0 or 1. -/
def sourceOf (n : Nat) : Source := if n = 0 then .xo else .ext

def SrcState.code : SrcState → Nat
  | .off => 0 | .starting => 1 | .running => 2 | .failed => 3

def RefState.code : RefState → Nat
  | .absent => 0 | .qualifying => 1 | .present => 2

def DiscState.code : DiscState → Nat
  | .freerun => 0 | .locking => 1 | .locked => 2 | .holdover => 3

def LaneState.code : LaneState → Nat
  | .free => 0 | .waiting => 1 | .running => 2 | .held => 3 | .releasing => 4

def Rounding.code : Rounding → Nat
  | .nearestEven => 0 | .down => 1 | .up => 2 | .towardZero => 3

/-- The rounding mode of a code of 0 to 3. -/
def roundingOf (n : Nat) : Rounding := if n = 0 then .nearestEven else if n = 1 then .down else if n = 2 then .up else .towardZero

def MarkState.code : MarkState → Nat
  | .disabled => 0 | .armed => 1 | .holdoff => 2

def EdgeSelect.code : EdgeSelect → Nat
  | .rising => 0 | .falling => 1 | .both => 2

/-- The edge selection of a code of 0 to 2. -/
def edgeOf (n : Nat) : EdgeSelect := if n = 0 then .rising else if n = 1 then .falling else .both

def DeviceKind.code : DeviceKind → Nat
  | .camera => 0 | .recorder => 1 | .slate => 2 | .suite => 3

/-- The device kind of a code of 0 to 3. -/
def deviceKindOf (n : Nat) : DeviceKind := if n = 0 then .camera else if n = 1 then .recorder else if n = 2 then .slate else .suite

def DeviceState.code : DeviceState → Nat
  | .unseen => 0 | .acquiring => 1 | .tracking => 2 | .outOfTolerance => 3 | .rejamPending => 4 | .lost => 5

def Tag.code : Tag → Nat
  | .valid => 0 | .outlier => 1 | .empty => 2

/-- The states of a cue slot; FREE is 0. -/
def CueState.code : CueState → Nat
  | .waiting => 1 | .suspended => 2 | .pulsing => 3

def Anchor.code : Anchor → Nat
  | .absolute _ => 0 | .label _ _ _ => 1 | .sample _ _ => 2

def Action.code : Action → Nat
  | .none => 0 | .high => 1 | .low => 2 | .toggle => 3 | .pulse => 4

/-- The action of a code of 0 to 4. -/
def actionOf (n : Nat) : Action :=
  if n = 0 then .none else if n = 1 then .high else if n = 2 then .low else if n = 3 then .toggle else .pulse

/-- A number, or 255 for none (R117, R140). -/
def orNone (n : Option Nat) : Nat := n.getD 255

/-- Firings left, with 4,294,967,295 for unbounded (R140). -/
def firingsCode (left : Option Nat) : Nat := left.getD 4294967295

/-- A label record of zeros. -/
def zeroLabel : Label := ⟨0, 0, 0, 0, 0⟩

/-- A label record, or zeros where there is no label. -/
def Lane.labelField (l : Lane) (c : Option Nat) : Fld := .label ((c.map l.labelOf).getD zeroLabel)

/-- A presence indicator (R177; log entry 9: it stands before what it speaks of). -/
def present {α : Type} (x : Option α) : Fld := .code (if x.isSome then 1 else 0)

/-- An indicator. -/
def indicator (b : Bool) : Fld := .code (if b then 1 else 0)

/-- A list of flags as R162 carries it. -/
def flagList (l : List Nat) : List Fld := .code l.length :: l.map .code

end Sys2Proof.Machine
end

