-- ==== Sys2Proof/Machine/Convert.lean ====
section
/-! DEFINITION. The lane mapping, conversions and exception conditions (sections 1.4 to 1.8). A conversion answers either its result or
the unmasked condition that stopped it, with the conditions it met on the way. -/

namespace Sys2Proof.Machine

/-! ### Conditions -/

/-- The conditions met in either of two parts. -/
def Conds.or (a b : Conds) : Conds := ⟨a.invalid || b.invalid, a.range || b.range, a.inexact || b.inexact⟩

/-- Whether a condition is among them. -/
def Conds.has (m : Conds) : Cond → Bool
  | .invalid => m.invalid
  | .range => m.range
  | .inexact => m.inexact

/-- One condition alone. -/
def Cond.only : Cond → Conds
  | .invalid => ⟨true, false, false⟩
  | .range => ⟨false, true, false⟩
  | .inexact => ⟨false, false, true⟩

/-- The refusal status of a condition (R21). -/
def Cond.status : Cond → Status
  | .invalid => .invalidLabel
  | .range => .range
  | .inexact => .inexact

/-- What a conversion comes to (R22, R23): a result, or the unmasked condition at which it stopped; with every condition met. -/
inductive Conv (α : Type) where
  | done (met : Conds) (a : α)
  | stopped (met : Conds) (c : Cond)

/-- Every condition met (R24). -/
def Conv.met {α : Type} : Conv α → Conds
  | .done m _ => m
  | .stopped m _ => m

/-- One part of a conversion after another; a stopped part stops the whole (R24). -/
def Conv.bind {α β : Type} (x : Conv α) (f : α → Conv β) : Conv β :=
  match x with
  | .stopped m c => .stopped m c
  | .done m a =>
    match f a with
    | .done m' b => .done (m.or m') b
    | .stopped m' c => .stopped (m.or m') c

/-- A condition arises on a lane: masked, the default result; unmasked, a stop (R22, R23). -/
def Lane.meet {α : Type} (l : Lane) (c : Cond) (default : α) : Conv α :=
  if l.masks.has c then .done c.only default else .stopped c.only c

/-! ### Boundaries and indices -/

/-- The frame index k(t) (R11). -/
def Lane.indexAt (l : Lane) (t : Int) : Int := (t - l.phase) / l.period

/-- The boundary PT of an index (R11). -/
def Lane.boundaryPt (l : Lane) (k : Int) : Int := l.phase + k * l.period

/-- The sub-frame at a PT (R11). -/
def Lane.subFrame (l : Lane) (t : Int) : Int := t - l.boundaryPt (l.indexAt t)

/-- The first index whose boundary PT is at or after a PT (R83). -/
def Lane.firstIndex (l : Lane) (t : Int) : Int := ceilDiv (t - l.phase) l.period

/-- The mapping held, or (0, 0) where none is: read only where a mapping is in force (R80). -/
def Lane.map (l : Lane) : Mapping := l.mapping.getD ⟨0, 0⟩

/-- The label count of an index, before any wrap (R12). -/
def Mapping.rawCount (m : Mapping) (k : Int) : Int := m.c0 + (k - m.k0)

/-- The label count of an index, always wrapped: the running label (R12) and the wildcard search (R142). -/
def Lane.countAt (l : Lane) (k : Int) : Nat := wrap (l.map.rawCount k) l.nDay

/-! ### Labels and PT -/

/-- The label count at PT `t` as a conversion takes it, RANGE outside the labelled day (R12). -/
def Lane.convCount (l : Lane) (t : Int) : Conv Nat :=
  let c := l.map.rawCount (l.indexAt t)
  if 0 ≤ c ∧ c < l.nDay then .done .none c.toNat else l.meet .range (wrap c l.nDay)

/-- INVALID on a label or a pattern that is brought in (R21, R142). -/
def Lane.bring (l : Lane) (lab : Label) : Conv Label :=
  if l.patternExists lab then .done .none lab else l.meet .invalid (l.nextExisting lab)

/-- The ticks of one labelled day (R13). -/
def Lane.dayTicks (l : Lane) : Int := l.nDay * l.period

/-- The occurrence of count `c` with sub-frame offset `o` in the labelled day that begins at k0 (R13, j = 0). -/
def Lane.baseOccurrence (l : Lane) (c : Nat) (o : Int) : Int :=
  l.boundaryPt (l.map.k0 + wrap ((c : Int) - l.map.c0) l.nDay) + o

/-- The occurrence chosen by NEXT: the first at or after `r` (R14). -/
def Lane.nextOccurrence (l : Lane) (c : Nat) (o r : Int) : Int :=
  l.baseOccurrence c o + ceilDiv (r - l.baseOccurrence c o) l.dayTicks * l.dayTicks

/-- The occurrence chosen by NEAREST: the least distance from `r`, the earlier at a tie (R14). -/
def Lane.nearestOccurrence (l : Lane) (c : Nat) (o r : Int) : Int :=
  let x := r - l.baseOccurrence c o
  let j := x / l.dayTicks
  let past := x % l.dayTicks
  l.baseOccurrence c o + (if 2 * past ≤ l.dayTicks then j else j + 1) * l.dayTicks

/-- The PT range check of a final result (R15, R18). -/
def Lane.checkPt (l : Lane) (v : Int) : Conv Nat :=
  if 0 ≤ v ∧ v < ptLimit then .done .none v.toNat
  else l.meet .range (if v < 0 then 0 else ptLimit - 1)

/-- A label count to PT by NEXT (R13 to R15). -/
def Lane.nextPt (l : Lane) (c : Nat) (o r : Int) : Conv Nat := l.checkPt (l.nextOccurrence c o r)

/-- A label to PT: the label count taken and its PT (R13 to R15). `near` is the day selector NEAREST. -/
def Lane.labelToPt (l : Lane) (near : Bool) (lab : Label) (o r : Int) : Conv (Nat × Nat) :=
  (l.bring lab).bind fun lab' =>
    let c := l.countOf lab'
    (l.checkPt (if near then l.nearestOccurrence c o r else l.nextOccurrence c o r)).bind fun t => .done .none (c, t)

/-! ### Sample positions -/

/-- The sample rate S (R16). -/
def Sound.rate (s : Sound) : Int := if s.rate96 then 96000 else 48000

/-- The pull numerator (R16). -/
def Sound.pn (s : Sound) : Int := if s.pull = 1 then 1000 else if s.pull = 2 then 1001 else 1

/-- The pull denominator (R16). -/
def Sound.pd (s : Sound) : Int := if s.pull = 1 then 1001 else if s.pull = 2 then 1000 else 1

/-- The sample origin σ (R16). -/
def Lane.sampleOrigin (l : Lane) : Int := l.boundaryPt l.map.k0

/-- The numerator of the sample quotient at a PT (R17). -/
def Lane.quotNum (l : Lane) (s : Sound) (t : Int) : Int := (t - l.sampleOrigin) * s.rate * s.pn

/-- The denominator of the sample quotient (R17). -/
def Sound.quotDen (s : Sound) : Int := 54000000 * s.pd

/-- 2^47, one past the largest sample position (R2). -/
def sampleLimit : Int := 2 ^ 47

/-- A sample position within −2^47 to 2^47 − 1. -/
def sampleInRange (p : Int) : Bool := decide (-sampleLimit ≤ p ∧ p < sampleLimit)

/-- A sample position clamped to its range. -/
def clampSample (p : Int) : Int := clampInt (-sampleLimit) (sampleLimit - 1) p

/-- PT to sample position (R17): INEXACT, then RANGE. -/
def Lane.ptToSample (l : Lane) (s : Sound) (t : Int) : Conv Int :=
  let num := l.quotNum s t
  let q := l.rounding.apply num s.quotDen
  (if num % s.quotDen = 0 then .done .none q else l.meet .inexact q).bind fun p =>
    if sampleInRange p then .done .none p else l.meet .range (clampSample p)

/-- The latched sample position with its exactness, which meets no condition (R85). -/
def Lane.latchSample (l : Lane) (s : Sound) (t : Int) : Int × Bool :=
  let num := l.quotNum s t
  (clampSample (l.rounding.apply num s.quotDen), decide (num % s.quotDen = 0))

/-- Sample position to PT (R18): INEXACT, then RANGE. -/
def Lane.sampleToPt (l : Lane) (s : Sound) (p : Int) : Conv Nat :=
  let num := p * s.quotDen
  let den := s.rate * s.pn
  let t := l.sampleOrigin + ceilDiv num den
  (if num % den = 0 then .done .none t else l.meet .inexact t).bind l.checkPt

/-- The sound part of a lane, or 48 kHz without pull where it has none: read only on a sound lane. -/
def Lane.soundPart (l : Lane) : Sound := l.sound.getD ⟨false, 0⟩

/-! ### The wildcard search -/

/-- The label of an index under the mapping held. -/
def Lane.labelAt (l : Lane) (k : Int) : Label := l.labelOf (l.countAt k)

/-- The first index from `k` on, within `fuel` indices, whose label the test accepts. -/
def Lane.searchFrom (l : Lane) (test : Label → Bool) : Nat → Int → Option Int
  | 0, _ => none
  | fuel + 1, k => if test (l.labelAt k) then some k else l.searchFrom test fuel (k + 1)

/-- The index a wildcard pattern is next due at, from a start PT (R142); the search ends within N_day indices. -/
def Lane.wildIndex (l : Lane) (p : Label) (o start : Int) : Option Int :=
  l.searchFrom (patternCovers p) l.nDay (l.firstIndex (start - o))

end Sys2Proof.Machine
end

