-- ==== Sys2Proof/Machine/Flags.lean ====
section
/-! DEFINITION. The attention flags and the ATTN line (Chapter 9): the only place a flag is raised. -/

namespace Sys2Proof.Machine

/-- The number of a flag (R162). -/
def Flag.num : Flag → Nat
  | .sourceReady => 1 | .sourceFailed => 2 | .sourceFallback => 3 | .ptStall => 4
  | .refQualified => 5 | .refLost => 6 | .refMismatch => 7 | .lockAcquired => 8
  | .lockLost => 9 | .holdoverExpired => 10 | .ptStep => 11 | .timeDiscontinuity => 12
  | .laneReleased => 13 | .laneException => 14 | .markExpired => 15 | .markOverflow => 16
  | .deviceTolerance => 17 | .deviceStep => 18 | .deviceLost => 19 | .cueFired => 20
  | .cueLate => 21 | .cueDropped => 22 | .cueTableFull => 23 | .linkOverrun => 24

/-- The record of flag number `n`; a clear one where there is no such flag. -/
def State.flagNo (s : State) (n : Nat) : FlagRec := s.attn.get (n - 1) .reset

/-- The record of a flag. -/
def State.flag (s : State) (f : Flag) : FlagRec := s.flagNo f.num

/-- A block raises a flag: it becomes set and loses its seen mark, whatever its enable (R163). -/
def raise (f : Flag) (s : State) : State :=
  { s with attn := s.attn.put (f.num - 1) { s.flag f with set := true, seen := false } }

/-- A block raises a flag where a condition holds. -/
def raiseIf (b : Bool) (f : Flag) (s : State) : State := if b then raise f s else s

/-- ATTN is asserted exactly while some flag is set and enabled (R164). -/
def State.attnAsserted (s : State) : Bool := s.attn.list.any fun f => f.set && f.enable

/-- The numbers of the flags with a property, in increasing order (R162). -/
def State.flagsWhere (s : State) (p : Nat → FlagRec → Bool) : List Nat :=
  ((List.range 24).map (· + 1)).filter fun n => p n (s.flagNo n)

/-- The set flags. -/
def State.setFlags (s : State) : List Nat := s.flagsWhere fun _ f => f.set

/-- The enabled flags. -/
def State.enabledFlags (s : State) : List Nat := s.flagsWhere fun _ f => f.enable

/-- Every flag's record replaced by its image, with its number. -/
def State.mapFlags (s : State) (g : Nat → FlagRec → FlagRec) : State :=
  { s with attn := s.attn.mapIdx fun i f => g (i + 1) f }

end Sys2Proof.Machine
end

