-- ==== Sys2Proof/Machine/Ops.lean ====
section
/-! DEFINITION. The named operations over the state that the blocks share: records read and written, PT, free draws, orders the manual
leaves open, the condition flags of a lane, and the frame of a command. -/

namespace Sys2Proof.Machine

/-! ### Records -/

def State.lane (s : State) (i : Nat) : Lane := s.lanes.get i .reset
def State.setLane (s : State) (i : Nat) (l : Lane) : State := { s with lanes := s.lanes.put i l }
def State.fp (s : State) (i : Nat) : FramePulse := s.fps.get i .reset
def State.setFp (s : State) (i : Nat) (f : FramePulse) : State := { s with fps := s.fps.put i f }
def State.mark (s : State) (i : Nat) : MarkInput := s.marks.get i .reset
def State.setMark (s : State) (i : Nat) (m : MarkInput) : State := { s with marks := s.marks.put i m }
/-- A device slot; none is a free slot. -/
def State.device (s : State) (i : Nat) : Option Device := s.devices.get i none
def State.setDevice (s : State) (i : Nat) (d : Option Device) : State := { s with devices := s.devices.put i d }
/-- A cue slot; none is a FREE slot. -/
def State.cue (s : State) (i : Nat) : Option Cue := s.cues.get i none
def State.setCue (s : State) (i : Nat) (c : Option Cue) : State := { s with cues := s.cues.put i c }
def State.line (s : State) (i : Nat) : Line := s.lines.get i .reset
def State.setLine (s : State) (i : Nat) (l : Line) : State := { s with lines := s.lines.put i l }
def State.setDues (s : State) (d : List Nat) : State := { s with dues := d }
def State.setTb (s : State) (t : Timebase) : State := { s with tb := t }
def State.setRef (s : State) (r : RefMon) : State := { s with ref := r }
def State.setSrc (s : State) (x : Sources) : State := { s with src := x }
def State.setLink (s : State) (l : Link) : State := { s with link := l }
/-- One more free value drawn (log entries 2 and 3). -/
def State.draw (s : State) : State := { s with draws := s.draws + 1 }

/-- The numbers of a bank's records, in order. -/
def slots (n : Nat) : List Nat := List.range n

/-! ### The selected source and the stall -/

/-- A source's record. -/
def Sources.of (x : Sources) : Source → SourceRec
  | .xo => x.xo
  | .ext => x.ext

/-- A source's record replaced. -/
def Sources.setRec (x : Sources) (which : Source) (r : SourceRec) : Sources :=
  match which with
  | .xo => { x with xo := r }
  | .ext => { x with ext := r }

/-- The selected source's record. -/
def Sources.selected (x : Sources) : SourceRec := x.of x.selection

/-- PT is stalled while the selected source is not RUNNING (R28, R37, R58). -/
def State.stalled (s : State) : Bool := decide (s.src.selected.state ≠ .running)

/-! ### Moving PT -/

/-- PT becomes `v`; outside 0 to 2^64 − 1 the manual gives no value, and a free one stands there (R1, R58; log entry 2). -/
def State.putPt (s : State) (v : Int) : State :=
  if 0 ≤ v ∧ v < ptLimit then { s with tb := { s.tb with pt := v.toNat } }
  else { s with tb := { s.tb with pt := (Config.freePt s.draws).toNat }, draws := s.draws + 1 }

/-! ### Orders the manual leaves open -/

/-- Two announcements that need no order among themselves (R63, R71): where the order shows, it is a free one (log entry 3). -/
def unordered (f g : State → State) (s : State) : State :=
  if g (f s) = f (g s) then g (f s)
  else if Config.freeFirst s.draws then (g (f s)).draw else (f (g s)).draw

/-- A number placed among others by rank. -/
def placeByRank (rank : Nat → Nat) (x : Nat) : List Nat → List Nat
  | [] => [x]
  | y :: ys => if rank x ≤ rank y then x :: y :: ys else y :: placeByRank rank x ys

/-- Events of different lanes in an order the manual leaves open (R83; log entry 3). -/
def freeOrder (draws : Nat) : List Nat → List Nat
  | [] => []
  | x :: xs => placeByRank (Config.freeRank draws) x (freeOrder draws xs)

/-! ### Sticky flags -/

/-- Some condition newly met: its sticky flag goes from clear to set (R97). -/
def Conds.newly (sticky met : Conds) : Bool :=
  (met.invalid && !sticky.invalid) || (met.range && !sticky.range) || (met.inexact && !sticky.inexact)

/-- The conditions met by a conversion set the lane's sticky flags, and the first setting raises LANE_EXCEPTION (R22, R23, R97). -/
def stick (i : Nat) (met : Conds) (s : State) : State :=
  let l := s.lane i
  raiseIf (l.sticky.newly met) .laneException (s.setLane i { l with sticky := l.sticky.or met })

/-- As `stick`, for a conversion that may have no lane (an ABSOLUTE anchor). -/
def stickOpt (i : Option Nat) (met : Conds) (s : State) : State :=
  match i with
  | some i => stick i met s
  | none => s

/-! ### The frame of a command -/

/-- The outcome of a command: the part runs it unless RESET is held low, while which every block is held at its power-on values (R184). -/
def live (f : State → State) (s : State) : Host.Outcome State Fault Refusal := .next (if s.resetLow then s else f s)

/-- A request is taken by its owning block: the block's effect and its answer (R176, R177). -/
def request (f : State → State × Answer) (s : State) : Host.Outcome State Fault Refusal :=
  live (fun s => { (f s).1 with answer := some (f s).2 }) s

/-- An answer with status OK. -/
def Answer.ok (fields : List Fld) : Answer := ⟨.ok, fields⟩

/-- A refusal: a status alone, and no change of state (R178). -/
def refuse (st : Status) (s : State) : State × Answer := (s, ⟨st, []⟩)

/-- A conversion's refusal: the sticky flags it set stay, and the status is the condition's (R23). -/
def refuseMet (i : Nat) (m : Conds) (c : Cond) (s : State) : State × Answer := (stick i m s, ⟨c.status, []⟩)

/-- A request taken with OK. -/
def accept (s : State) (fields : List Fld) : State × Answer := (s, .ok fields)

/-- An event that takes effect only at a moment where it can happen; elsewhere nothing happens (log entry 7). -/
def event (guard : State → Bool) (f : State → State) (s : State) : Host.Outcome State Fault Refusal :=
  live (fun s => if guard s then f s else s) s

end Sys2Proof.Machine
end

