-- ==== Sys2Proof/Machine/Attention.lean ====
section
/-! DEFINITION. FLAGS, ACK and ATTN_ENABLE (section 9.3). -/

namespace Sys2Proof.Machine

/-- A list of flags that R162 allows: at most 24 of them, each from 1 to 24 (section 9.3). -/
def flagsAllowed (l : List Nat) : Bool := decide (l.length ≤ 24) && l.all fun n => decide (1 ≤ n ∧ n ≤ 24)

/-- ATTN's level as replies carry it, 1 when asserted. -/
def attnField (s : State) : Fld := indicator s.attnAsserted

/-- A set flag gains its seen mark (R165). -/
def FlagRec.marked (f : FlagRec) : FlagRec := if f.set then { f with seen := true } else f

/-- A listed flag that is set and seen becomes clear (R166). -/
def FlagRec.acked (f : FlagRec) : FlagRec := if f.set && f.seen then { f with set := false, seen := false } else f

/-- FLAGS (R165). -/
def execFlags (s : State) : Host.Outcome State Fault Refusal :=
  request (fun s =>
    accept (s.mapFlags fun _ f => f.marked) (flagList s.setFlags ++ flagList s.enabledFlags ++ [attnField s])) s

/-- ACK (R166). -/
def execAck (list : List Nat) (s : State) : Host.Outcome State Fault Refusal :=
  request (fun s =>
    if flagsAllowed list then
      let t := s.mapFlags fun n f => if list.contains n then f.acked else f
      accept t
        (flagList (s.flagsWhere fun n f => list.contains n && f.set && f.seen)
          ++ flagList (s.flagsWhere fun n f => list.contains n && f.set && !f.seen) ++ [attnField t])
    else refuse .badValue s) s

/-- ATTN_ENABLE (R167). -/
def execAttnEnable (list : List Nat) (s : State) : Host.Outcome State Fault Refusal :=
  request (fun s =>
    if flagsAllowed list then
      let t := s.mapFlags fun n f => { f with enable := list.contains n }
      accept t (flagList t.enabledFlags ++ flagList t.setFlags ++ [attnField t])
    else refuse .badValue s) s

end Sys2Proof.Machine
end

