-- ==== Sys2Proof/Machine/TrackerOps.lean ====
section
/-! DEFINITION. What other blocks' events do to the device records: the Cue Scheduler's messages, steps, mapping changes and time
discontinuities (R122, R134 to R137). -/

namespace Sys2Proof.Machine

/-- The silence limit in ticks (R117). -/
def Device.silenceTicks (d : Device) : Nat := d.silence * ticksPerSecond

/-- The minimum span in ticks (R117). -/
def Device.spanTicks (d : Device) : Int := d.span * ticksPerSecond

/-- The ring emptied, with the estimates, the count and the silence that go with it (R122, R120, R134, R137). -/
def Device.emptied (d : Device) : Device :=
  { d with ring := [], top := 0, offsetEst := none, driftEst := none, outliers := 0, silenceLeft := none }

/-- The device after its owned cue has left the table (R134). -/
def Device.cueGone (d : Device) (completed : Bool) : Device :=
  if completed then { d.emptied with state := .unseen, cue := none }
  else if d.ring.isEmpty then { d with state := .unseen, silenceLeft := none, cue := none }
  else { d with state := .outOfTolerance, silenceLeft := some d.silenceTicks, cue := none }

/-- The Cue Scheduler's message that device `n`'s owned cue has left the table: at the end of its pulse, or dropped or cancelled (R134). -/
def deviceCueGone (n : Nat) (completed : Bool) (s : State) : State :=
  match s.device n with
  | none => s
  | some d =>
    raiseIf (!completed && !d.ring.isEmpty) .deviceTolerance (s.setDevice n (some (d.cueGone completed)))

/-- A function applied to every registered device. -/
def mapDevices (f : Device → Device) (s : State) : State := { s with devices := s.devices.map (Option.map f) }

/-- A step of PT by `a` moves the mark PT of every observation (R135). -/
def Device.stepped (a : Int) (d : Device) : Device := { d with ring := d.ring.map fun o => { o with pt := o.pt + a } }

/-- A mapping change shifts every offset and the offset estimate of a follower of lane `i` by `shift` ticks (R136). -/
def Device.shifted (i : Nat) (shift : Int) (d : Device) : Device :=
  if d.lane = i then
    { d with ring := d.ring.map fun o => { o with offset := o.offset + shift }, offsetEst := d.offsetEst.map (· + shift) }
  else d

/-- A time discontinuity empties the ring; a device that owns no cue becomes UNSEEN (R137). -/
def Device.discontinued (d : Device) : Device :=
  { d.emptied with state := if d.cue.isSome then d.state else .unseen }

/-- R135. -/
def devicesStep (a : Int) : State → State := mapDevices (Device.stepped a)

/-- R136. -/
def devicesShift (i : Nat) (shift : Int) : State → State := mapDevices (Device.shifted i shift)

/-- R137. -/
def devicesDiscontinuity : State → State := mapDevices Device.discontinued

end Sys2Proof.Machine
end

