-- ==== Sys2Proof/Machine/CueOps.lean ====
section
/-! DEFINITION. The Cue Scheduler's shared operations: the due list, firing and the next due, lines and pulses, late dues, suspension,
recomputation and the setting up of a cue (Chapter 8). -/

namespace Sys2Proof.Machine

/-! ### Anchors -/

/-- The lane of a LABEL or SAMPLE anchor. -/
def Anchor.lane? : Anchor → Option Nat
  | .absolute _ => none
  | .label i _ _ => some i
  | .sample i _ => some i

/-- A LABEL anchor with a wildcard (R141). -/
def Anchor.wildcard : Anchor → Bool
  | .label _ p _ => patternWild p
  | _ => false

/-- The cue is anchored to lane `i`. -/
def Cue.on (c : Cue) (i : Nat) : Bool := decide (c.anchor.lane? = some i)

/-- The cue has further firings: firings left above 0, or unbounded (R140). -/
def Cue.further (c : Cue) : Bool := decide (c.left ≠ some 0)

/-- What one search or conversion finds for a cue: a due and the current anchor it belongs to. -/
structure Found where
  due : Nat
  current : Option Int
  deriving DecidableEq, Repr

/-- The due of an anchor against a reference PT `r`, under the mapping now held by its lane (R144, R155): for a LABEL anchor NEXT for the
current count, for a wildcard the search from `r`, for a SAMPLE anchor R18. -/
def State.dueAgainst (s : State) (a : Anchor) (current : Option Int) (r : Nat) : Conv Found :=
  match a with
  | .absolute pt => .done .none ⟨pt, none⟩
  | .label i p o =>
    let l := s.lane i
    if patternWild p then
      let k := (l.wildIndex p o r).getD (l.firstIndex (r - o))
      (l.checkPt (l.boundaryPt k + o)).bind fun t => .done .none ⟨t, some (l.countAt k)⟩
    else
      (l.nextPt (current.getD 0).toNat o r).bind fun t => .done .none ⟨t, current⟩
  | .sample i _ =>
    let l := s.lane i
    (l.sampleToPt l.soundPart (current.getD 0)).bind fun t => .done .none ⟨t, current⟩

/-! ### The due list (R145) -/

/-- A due placed behind every due equal to or earlier than its own. -/
def placeDue (dueOf : Nat → Nat) (slot due : Nat) : List Nat → List Nat
  | [] => [slot]
  | x :: xs => if dueOf x ≤ due then x :: placeDue dueOf slot due xs else slot :: x :: xs

/-- The due PT of a slot. -/
def State.dueOf (s : State) (slot : Nat) : Nat := ((s.cue slot).bind Cue.due).getD 0

/-- A cue leaves the due list. -/
def leaveDues (slot : Nat) (s : State) : State := s.setDues (s.dues.filter (· ≠ slot))

/-- A cue's due is set: it enters the due list anew (R145). -/
def enterDues (slot : Nat) (c : Cue) (due : Nat) (s : State) : State :=
  let s := leaveDues slot s
  let s := s.setDues (placeDue s.dueOf slot due s.dues)
  s.setCue slot (some { c with due := some due })

/-! ### Lines and pulses -/

/-- A pulse ends: the line goes to its idle level if the cue holds it, and is otherwise left (R149). -/
def releaseLine (slot : Nat) (line : Option Nat) (s : State) : State :=
  match line with
  | none => s
  | some j =>
    let l := s.line j
    if l.holder = some slot then s.setLine j { l with level := l.idle, holder := none } else s

/-- A cue's action on its line (R148). -/
def Line.after (l : Line) (slot : Nat) : Action → Line
  | .none => l
  | .high => { l with level := true, holder := none }
  | .low => { l with level := false, holder := none }
  | .toggle => { l with level := !l.level, holder := none }
  | .pulse => { l with level := !l.idle, holder := some slot }

/-- A cue's action applied to its line; NONE touches no line (R146, R148). -/
def driveLine (slot : Nat) (c : Cue) (s : State) : State :=
  match c.line with
  | none => s
  | some j => if c.action = .none then s else s.setLine j ((s.line j).after slot c.action)

/-- A slot becomes FREE: it leaves the list, and a pulse it holds ends (R152, R157). -/
def freeSlot (slot : Nat) (s : State) : State :=
  match s.cue slot with
  | none => s
  | some c => (releaseLine slot c.line (leaveDues slot s)).setCue slot none

/-- The Device Tracker is told that a cue has left the table, where a device owns it (R134). -/
def reportGone (owner : Option Nat) (completed : Bool) (s : State) : State :=
  match owner with
  | none => s
  | some n => deviceCueGone n completed s

/-- A cue is dropped: slot FREE, CUE_DROPPED, and the drop reported (R152, R155). -/
def dropCue (slot : Nat) (s : State) : State :=
  match s.cue slot with
  | none => s
  | some c => reportGone c.owner false (raise .cueDropped (freeSlot slot s))

/-! ### The next due (R141, R147) -/

/-- Firings left after `n` dues are passed over; none where no firings remain. -/
def useFirings (left : Option Nat) (n : Nat) : Option (Option Nat) :=
  match left with
  | none => some none
  | some f => if n < f then some (some (f - n)) else none

/-- The next due of a series: the due, the firings left and the current anchor. -/
structure NextDue where
  due : Nat
  left : Option Nat
  current : Option Int
  deriving DecidableEq, Repr

/-- How a series goes on after a firing: its next due, or none where no firings remain; and the current anchor that it then holds. -/
structure Series where
  last : Option Int
  next : Conv (Option NextDue)

/-- The wildcard series from index `k`: each match before `t` is passed over and uses one firing, until a match at or after `t` or until no
firings remain. The last match comes back, with the firings left where some remain (R142, R147). -/
def Lane.wildSeries (l : Lane) (p : Label) (o t : Int) : Nat → Int → Option Nat → Option (Int × Option (Option Nat))
  | 0, _, _ => none
  | fuel + 1, k, left =>
    if patternCovers p (l.labelAt k) then
      if t ≤ l.boundaryPt k + o then some (k, some left)
      else
        match useFirings left 1 with
        | none => some (k, none)
        | some left' => l.wildSeries p o t fuel (k + 1) left'
    else l.wildSeries p o t fuel (k + 1) left

/-- How many dues of a series that starts at `first` with a spacing of `gap` ticks lie before `t`. -/
def passedOver (first gap t : Int) : Nat := if t ≤ first then 0 else (ceilDiv (t - first) gap).toNat

/-- The next due after a firing whose due was `d`, at current PT `t`, with `left` firings left; none where no firings remain (R147). The
dues before `t` are passed over, and only the due at which the series resumes is found by its conversion. A wildcard's current anchor is the
last match, even one passed over (R142). A SAMPLE due is compared with `t` by its PT before any clamp (log entry 33). -/
def State.seriesNext (s : State) (c : Cue) (left : Option Nat) (d t : Nat) : Series :=
  match c.anchor with
  | .absolute _ =>
    let skip := passedOver (d + c.interval) c.interval t
    let due := d + (skip + 1) * c.interval
    ⟨c.current,
      match useFirings left skip with
      | none => .done .none none
      | some left' => if due < ptLimit then .done .none (some ⟨due, left', none⟩) else .done .none none⟩
  | .label i p o =>
    let l := s.lane i
    if patternWild p then
      let from' := l.firstIndex (d + 1 - o)
      let fuel := l.nDay + (l.firstIndex (t - o) - from').toNat
      match l.wildSeries p o t fuel from' left with
      | none => ⟨c.current, .done .none none⟩
      | some (k, none) => ⟨some (l.countAt k), .done .none none⟩
      | some (k, some left') =>
        ⟨some (l.countAt k), (l.checkPt (l.boundaryPt k + o)).bind fun due => .done .none (some ⟨due, left', some (l.countAt k)⟩)⟩
    else
      let count := fun n : Nat => wrap (c.current.getD 0 + n * c.interval) l.nDay
      let first := l.nextOccurrence (count 1) o d
      let gap : Int := c.interval * l.period
      let skip := passedOver first gap t
      ⟨c.current,
        match useFirings left skip with
        | none => .done .none none
        | some left' => (l.checkPt (first + skip * gap)).bind fun due => .done .none (some ⟨due, left', some (count (skip + 1))⟩)⟩
  | .sample i _ =>
    let l := s.lane i
    let x := l.soundPart
    let first := c.current.getD 0 + c.interval
    -- the last position whose PT lies before `t`: ⌈p·X/Y⌉ < t − σ exactly when p ≤ ⌊(t − σ − 1)·Y/X⌋
    let last := (t - l.sampleOrigin - 1) * (x.rate * x.pn) / x.quotDen
    let skip := if first ≤ last then ((last - first) / c.interval + 1).toNat else 0
    let pos := first + skip * c.interval
    ⟨c.current,
      match useFirings left skip with
      | none => .done .none none
      | some left' =>
        if pos < sampleLimit then (l.sampleToPt x pos).bind fun due => .done .none (some ⟨due, left', some pos⟩)
        else .done .none none⟩

/-! ### Firing (R146) -/

/-- The staged block replaces the cue's width, interval and action (R146, step 1). -/
def Cue.restaged (c : Cue) : Cue :=
  match c.staged with
  | none => c
  | some b => { c with width := b.width, interval := b.interval, action := b.action, staged := none }

/-- No firings remain: a PULSE runs out its width, any other action frees the slot (R146, step 5; R147). -/
def lastFiring (slot : Nat) (c : Cue) (s : State) : State :=
  if c.action = .pulse then s.setCue slot (some { c with state := .pulsing, left := some 0, due := none })
  else s.setCue slot none

/-- The cue after steps 1 to 4 of a firing: restaged, its pulse started anew or ended, one firing used. -/
def Cue.fired (c : Cue) : Cue :=
  let c := c.restaged
  { c with
    remaining := if c.action = .pulse then c.width else 0
    left := c.left.map (· - 1)
    due := none }

/-- Steps 1 to 4 of a firing, on everything but the slot: the list, the line and CUE_FIRED (R146). -/
def fireActs (slot : Nat) (c : Cue) (s : State) : State :=
  let c' := c.restaged
  let s := leaveDues slot s
  let s := if c.state = .pulsing ∧ c'.action ≠ .pulse then releaseLine slot c.line s else s
  raiseIf c'.flagOnFire .cueFired (driveLine slot c' s)

/-- A cue fires, and its next due is found (R146, R147). -/
def fireCue (slot : Nat) (s : State) : State :=
  match s.cue slot with
  | none => s
  | some c =>
    let d := c.due.getD s.tb.pt
    let f := c.fired
    let s := fireActs slot c s
    if f.further then
      let n := s.seriesNext f f.left d s.tb.pt
      let s := stickOpt f.anchor.lane? n.next.met s
      match n.next with
      | .done _ (some n) =>
        enterDues slot { f with state := if f.action = .pulse then .pulsing else .waiting, left := n.left, current := n.current } n.due s
      | .done _ none => lastFiring slot { f with current := n.last } s
      | .stopped _ _ => lastFiring slot { f with current := n.last } (raise .cueDropped s)
    else lastFiring slot f s

/-! ### Late dues (R152) -/

/-- A late cue is handled by its late policy: it fires at once with CUE_LATE, or is dropped (R152). The stall is not read (log entry 32). -/
def lateCue (slot : Nat) (s : State) : State :=
  match s.cue slot with
  | none => s
  | some c => if c.drop then dropCue slot s else fireCue slot (raise .cueLate s)

/-- A due is set for a cue, which is late where it lies before the current PT (R145, R152). -/
def setDue (slot : Nat) (c : Cue) (due : Nat) (s : State) : State :=
  let s := enterDues slot c due s
  if due < s.tb.pt then lateCue slot s else s

/-- The cues of the list whose dues PT has passed are late, in list order (R152, R153). -/
def handleLate (s : State) : State :=
  (s.dues.filter fun slot => decide (s.dueOf slot < s.tb.pt)).foldl (fun s slot => lateCue slot s) s

/-! ### Moves of PT (R153) -/

/-- A step by `a`: a forward one makes the dues it passed late; a backward one makes none late. -/
def cuesStep (a : Int) (s : State) : State := if 0 < a then handleLate s else s

/-- The slots that hold a cue with a property, in slot order. -/
def State.cuesWhere (s : State) (p : Cue → Bool) : List Nat := (slots 64).filter fun i => (s.cue i).any p

/-- A SUSPENDED ABSOLUTE cue gets its anchor PT as its due at the first TIME_SET. -/
def startAbsolute (slot : Nat) (s : State) : State :=
  match s.cue slot with
  | none => s
  | some c =>
    match c.anchor with
    | .absolute pt => setDue slot { c with state := .waiting } pt s
    | _ => s

/-- A suspended cue with an ABSOLUTE anchor. -/
def Cue.heldAbsolute (c : Cue) : Bool := decide (c.state = .suspended) && c.anchor.lane?.isNone

/-- The first TIME_SET. -/
def cuesTimeSet (s : State) : State := (s.cuesWhere Cue.heldAbsolute).foldl (fun s slot => startAbsolute slot s) s

/-! ### Recomputation and suspension (R154, R155) -/

/-- One cue's due is found again under the mapping now in force, against the current PT; a conversion that stops drops it (R155). -/
def recomputeCue (slot : Nat) (s : State) : State :=
  match s.cue slot with
  | none => s
  | some c =>
    let s := leaveDues slot s
    let n := s.dueAgainst c.anchor c.current s.tb.pt
    let s := stickOpt c.anchor.lane? n.met s
    match n with
    | .done _ f => setDue slot { c with state := if c.state = .suspended then .waiting else c.state, current := f.current } f.due s
    | .stopped _ _ => dropCue slot s

/-- The cues anchored to lane `i`: those in the list in list order, then the SUSPENDED ones in slot order (R155). -/
def State.cuesToRecompute (s : State) (i : Nat) : List Nat :=
  (s.dues.filter fun slot => (s.cue slot).any fun c => c.on i) ++ s.cuesWhere fun c => c.on i && decide (c.state = .suspended)

/-- The cues of a lane are recomputed: at its start, a release or a jam (R155). -/
def recomputeLane (i : Nat) (s : State) : State := (s.cuesToRecompute i).foldl (fun s slot => recomputeCue slot s) s

/-- A time discontinuity: the wildcard cues in the list are searched again, then the others passed are late (R153). The wildcard cues are
taken in list order, and all before the late ones (log entry 34). -/
def cuesDiscontinuity (s : State) : State :=
  handleLate ((s.dues.filter fun slot => (s.cue slot).any fun c => c.anchor.wildcard).foldl (fun s slot => recomputeCue slot s) s)

/-- One cue of a held lane is suspended (R154). -/
def suspendCue (slot : Nat) (s : State) : State :=
  match s.cue slot with
  | none => s
  | some c =>
    if c.state = .suspended ∨ (c.state = .pulsing ∧ ¬ c.further) then s
    else
      let s := leaveDues slot s
      let s := if c.state = .pulsing then releaseLine slot c.line s else s
      s.setCue slot (some { c with state := .suspended, due := none, remaining := 0 })

/-- The hold of lane `i` suspends its cues (R154). -/
def suspendLane (i : Nat) (s : State) : State := (s.cuesWhere fun c => c.on i).foldl (fun s slot => suspendCue slot s) s

/-! ### Setting up a cue (R144, R156) -/

/-- INVALID on a LABEL anchor that is brought in; the anchor and the current anchor hold the label taken (R144). -/
def State.bringAnchor (s : State) (a : Anchor) : Conv (Anchor × Option Int) :=
  match a with
  | .absolute pt => .done .none (.absolute pt, none)
  | .label i p o =>
    let l := s.lane i
    (l.bring p).bind fun p' => .done .none (.label i p' o, if patternWild p' then none else some (l.countOf p'))
  | .sample i pos => .done .none (.sample i pos, some pos)

/-- The first due of a cue that is taken, or none where it is SUSPENDED, with the anchor and current anchor it holds (R144). -/
def State.firstDue (s : State) (c : Cue) : Conv (Cue × Option Nat) :=
  (s.bringAnchor c.anchor).bind fun (a, current) =>
    let c := { c with anchor := a, current := current }
    let laneState := a.lane?.map fun i => (s.lane i).state
    if !s.tb.set || laneState = some .waiting then .done .none (c, none)
    else
      (s.dueAgainst a current s.tb.pt).bind fun f =>
        let c := { c with current := f.current }
        if laneState = some .held ∨ laneState = some .releasing then .done .none (c, none) else .done .none (c, some f.due)

/-- A cue is set up in a FREE slot: SUSPENDED, WAITING with its due, or late; or refused at an unmasked condition. The conditions met and
the condition that stopped it come back with the state (R144, R156). They are those of the first due: what a late firing meets in finding its
next due is not among them (log entry 35). -/
def admitCue (slot : Nat) (c : Cue) (s : State) : State × Conds × Option Cond :=
  let n := s.firstDue c
  let s := stickOpt c.anchor.lane? n.met s
  match n with
  | .stopped m k => (s, m, some k)
  | .done m (c, none) => (s.setCue slot (some { c with state := .suspended, due := none }), m, none)
  | .done m (c, some due) => (setDue slot { c with state := .waiting } due s, m, none)

end Sys2Proof.Machine
end

