-- ==== Sys2Proof/Machine/Cues.lean ====
section
/-! DEFINITION. The Cue Scheduler's commands (Chapter 8). -/

namespace Sys2Proof.Machine

/-- A cue slot that exists (R140). -/
def slotOk (i : Nat) : Bool := decide (i < 64)

/-- The width of a pulse as it is taken (R143, R158). -/
def pulseWidth (w : Int) : Nat := clampNat 54 54000000 w

/-- The current anchor as replies carry it: a label record, then a sample position, zeros where unused (R144, R159). -/
def State.currentFields (s : State) (a : Anchor) (current : Option Int) : List Fld :=
  match a with
  | .absolute _ => [.label zeroLabel, .sample 0]
  | .label i _ _ => [(s.lane i).labelField (current.map Int.toNat), .sample 0]
  | .sample _ _ => [.label zeroLabel, .sample (current.getD 0)]

/-- An interval as it is taken: a LABEL interval at most N_day − 1 of the lane (R141, R143, R158). -/
def State.intervalTaken (s : State) (a : Anchor) (interval : Nat) : Nat :=
  match a with
  | .label i _ _ => min interval ((s.lane i).nDay - 1)
  | _ => interval

/-! ### CUE_ADD (R143, R144) -/

/-- A field of a label pattern: below its limit, or ANY (R143). -/
def patternField (v limit : Nat) : Bool := decide (v < limit) || v == anyField

/-- The checks of step 1 of R143. -/
def addOk (kind lane : Nat) (label : Label) (position : Int) (action line flag count interval late : Nat) : Bool :=
  decide (kind ≤ 2) && decide (action ≤ 4) && (action == 0 || decide (line ≤ 7)) && decide (flag ≤ 1) && decide (late ≤ 1)
    && (kind == 0 || decide (lane ≤ 15))
    && (kind != 1 || (patternField label.hh 24 && patternField label.mm 60 && patternField label.ss 60 && label.ff != anyField))
    && (kind != 2 || sampleInRange position)
    && (if kind == 1 && patternWild label then interval == 0 else count == 0 || interval != 0)

/-- The anchor that a CUE_ADD carries (R141). -/
def anchorOf (kind pt lane : Nat) (label : Label) (offset position : Int) : Anchor :=
  if kind = 0 then .absolute pt else if kind = 1 then .label lane label offset else .sample lane position

/-- The checks of step 4 of R143, against the lane. -/
def State.anchorOk (s : State) (a : Anchor) : Bool :=
  match a with
  | .absolute _ => true
  | .label i p o => decide (p.ff < (s.lane i).base) && p.ind == bit (s.lane i).df && decide (0 ≤ o ∧ o < (s.lane i).period)
  | .sample i _ => (s.lane i).sound.isSome

/-- The cue that a CUE_ADD sets up, before its due (R140, R143). -/
def newCue (a : Anchor) (action : Nat) (width : Int) (line flag count interval late : Nat) : Cue :=
  { state := .suspended, owner := none, anchor := a, current := none, action := actionOf action, width := pulseWidth width,
    line := if action = 0 then none else some line, flagOnFire := flag == 1, repeatCount := count,
    left := if count = 65535 then none else some (count + 1), interval := interval, drop := late == 1, staged := none, due := none,
    remaining := 0 }

/-- The reply of a CUE_ADD that is taken; a late cue may have left its slot FREE, which then reads zeros (R144, R159). The
conditions met are coded as in `condFields` (log entry 36). -/
def State.addFields (s : State) (slot : Nat) (width interval : Nat) (m : Conds) : List Fld :=
  [.code slot]
    ++ (match s.cue slot with
      | none => [.code 0, .code 0, .pt 0, .word 0, .label zeroLabel, .sample 0]
      | some c => [.code c.state.code, present c.due, .pt (c.due.getD 0 : Nat), .word (firingsCode c.left)] ++ s.currentFields c.anchor c.current)
    ++ [.ticks width, .interval interval] ++ [indicator m.invalid, indicator m.range, indicator m.inexact]

/-- CUE_ADD (R143, R144). -/
def execCueAdd (slot kind pt lane : Nat) (label : Label) (offset position : Int) (action : Nat) (width : Int)
    (line flag count interval late : Nat) (s : State) : Host.Outcome State Fault Refusal :=
  request (fun s =>
    let a := anchorOf kind pt lane label offset position
    if !slotOk slot || !addOk kind lane label position action line flag count interval late then refuse .badValue s
    else if (s.cue slot).isSome then refuse .inUse s
    else if a.lane?.any (fun i => decide ((s.lane i).state = .free)) then refuse .noSuch s
    else if !s.anchorOk a then refuse .badValue s
    else
      let c := newCue a action width line flag count (s.intervalTaken a interval) late
      let r := admitCue slot c s
      match r.2.2 with
      | some k => (r.1, ⟨k.status, []⟩)
      | none => accept r.1 (r.1.addFields slot c.width c.interval r.2.1)) s

/-! ### CUE_CANCEL and CUE_MODIFY (R157, R158) -/

/-- CUE_CANCEL (R157): taken in every state. -/
def execCueCancel (slot : Nat) (s : State) : Host.Outcome State Fault Refusal :=
  request (fun s =>
    if !slotOk slot then refuse .badValue s
    else
      match s.cue slot with
      | none => accept s [.code 0, .code 0]
      | some c => accept (reportGone c.owner false (freeSlot slot s)) [.code c.state.code, .code (orNone c.owner)]) s

/-- The checks of R158 against the cue. -/
def Cue.modifyOk (c : Cue) (interval action : Nat) : Bool :=
  (action == 0 || c.line.isSome) && (if c.anchor.wildcard then interval == 0 else c.repeatCount == 0 || interval != 0)

/-- CUE_MODIFY (R158). -/
def execCueModify (slot : Nat) (width : Int) (interval action : Nat) (s : State) : Host.Outcome State Fault Refusal :=
  request (fun s =>
    if !slotOk slot ∨ 4 < action then refuse .badValue s
    else
      match s.cue slot with
      | none => refuse .wrongState s
      | some c =>
        if c.owner.isSome then refuse .inUse s
        else if c.state = .pulsing ∧ ¬ c.further then refuse .wrongState s
        else if !c.modifyOk interval action then refuse .badValue s
        else
          let b : Staged := { width := pulseWidth width, interval := s.intervalTaken c.anchor interval, action := actionOf action }
          accept (s.setCue slot (some { c with staged := some b }))
            [.ticks b.width, .interval b.interval, .code b.action.code, .code c.state.code]) s

/-! ### Reading (R159, R160) -/

/-- The anchor as CUE_QUERY carries it (R159). -/
def Anchor.fields : Anchor → List Fld
  | .absolute pt => [.code 0, .pt pt, .code 0, .label zeroLabel, .ticks 0, .sample 0]
  | .label i p o => [.code 1, .pt 0, .code i, .label p, .ticks o, .sample 0]
  | .sample i p => [.code 2, .pt 0, .code i, .label zeroLabel, .ticks 0, .sample p]

/-- The staged block as CUE_QUERY carries it (R159). -/
def stagedFields (b : Option Staged) : List Fld :=
  [present b, .ticks ((b.map Staged.width).getD 0 : Nat), .interval ((b.map Staged.interval).getD 0),
    .code ((b.map fun b => b.action.code).getD 0)]

/-- A slot's place in the due list, or 255 (R159). -/
def State.placeOf (s : State) (slot : Nat) : Nat := if s.dues.contains slot then s.dues.idxOf slot else 255

/-- What CUE_QUERY carries of a slot; a FREE slot reads zeros (R159). -/
def State.cueFields (s : State) (slot : Nat) : List Fld :=
  match s.cue slot with
  | none =>
    [.code 0, .code 0] ++ (Anchor.absolute 0).fields ++ [.code 0, .label zeroLabel, .sample 0, .code 0, .ticks 0, .code 0, .code 0,
      .short 0, .word 0, .interval 0, .code 0] ++ stagedFields none ++ [.code 0, .pt 0, .ticks 0, .code 0]
  | some c =>
    [.code c.state.code, .code (orNone c.owner)] ++ c.anchor.fields ++ [present c.current] ++ s.currentFields c.anchor c.current
      ++ [.code c.action.code, .ticks c.width, .code (orNone c.line), indicator c.flagOnFire, .short c.repeatCount,
        .word (firingsCode c.left), .interval c.interval, indicator c.drop]
      ++ stagedFields c.staged ++ [present c.due, .pt (c.due.getD 0 : Nat), .ticks c.remaining, .code (s.placeOf slot)]

/-- CUE_QUERY (R159). -/
def execCueQuery (slot : Nat) (s : State) : Host.Outcome State Fault Refusal :=
  request (fun s => if !slotOk slot then refuse .badValue s else accept s (s.cueFields slot)) s

/-- CUE_LIST (R160): up to 24 entries from the start place toward the tail. -/
def execCueList (start : Nat) (s : State) : Host.Outcome State Fault Refusal :=
  request (fun s =>
    if !slotOk start then refuse .badValue s
    else
      let entries := (s.dues.drop start).take 24
      accept s
        ([.code s.dues.length, .code start, .code entries.length] ++ entries.flatMap fun i => [.code i, .pt (s.dueOf i : Nat)])) s

/-! ### Dues and pulse ends (R145, R146, R149) -/

/-- The head of the due list has fallen due (R145). -/
def State.headDue (s : State) : Bool := s.dues.head?.any fun i => decide (s.dueOf i ≤ s.tb.pt)

/-- CUE_DUE (R145, R146): the head of the due list fires. -/
def execCueDue (s : State) : Host.Outcome State Fault Refusal :=
  event (fun s => !s.stalled && s.headDue) (fun s => fireCue (s.dues.headD 0) s) s

/-- A cue's pulse remaining has reached 0 (R149). -/
def Cue.pulseOver (c : Cue) : Bool := decide (c.state = .pulsing) && c.remaining == 0

/-- A cue's pulse ends: its line goes idle if it holds it, and the cue becomes WAITING or its slot FREE (R149). -/
def endPulse (slot : Nat) (s : State) : State :=
  match s.cue slot with
  | none => s
  | some c =>
    let s := releaseLine slot c.line s
    if c.further then s.setCue slot (some { c with state := .waiting }) else reportGone c.owner true (s.setCue slot none)

/-- CUE_PULSE_END (R149). -/
def execCuePulseEnd (slot : Nat) (s : State) : Host.Outcome State Fault Refusal :=
  event (fun s => !s.stalled && (s.cue slot).any Cue.pulseOver) (endPulse slot) s

/-! ### Output lines (R150, R161) -/

/-- A line after OUTPUT_SET: the idle level first, then the drive (R150). -/
def Line.written (l : Line) (idle drive : Nat) : Line :=
  let l := if idle = 2 then l else { l with idle := idle == 1 }
  if drive = 0 then l else { l with level := if drive = 3 then l.idle else drive == 2, holder := none }

/-- OUTPUT_SET (R150). -/
def execOutputSet (line idle drive : Nat) (s : State) : Host.Outcome State Fault Refusal :=
  request (fun s =>
    if 7 < line ∨ 2 < idle ∨ 3 < drive then refuse .badValue s
    else
      let l := (s.line line).written idle drive
      accept (s.setLine line l) [indicator l.idle, indicator l.level, .code (orNone l.holder)]) s

/-- OUTPUT_QUERY (R161). -/
def execOutputQuery (line : Nat) (s : State) : Host.Outcome State Fault Refusal :=
  request (fun s =>
    if 7 < line then refuse .badValue s
    else
      let l := s.line line
      accept s [indicator l.idle, indicator l.level, .code (orNone l.holder),
        .ticks (((l.holder.bind s.cue).map Cue.remaining).getD 0 : Nat)]) s

end Sys2Proof.Machine
end

