-- ==== Sys2Proof/Machine/MarkOps.lean ====
section
/-! DEFINITION. The Mark Capture Unit's shared operations: the glitch filter, captures, expiry and moves of PT (Chapter 6). The filter is
that of REF_IN as well (R41). -/

namespace Sys2Proof.Machine

/-! ### The glitch filter (R41, R104) -/

/-- The width of a filter code, in ns of the on-chip delay. -/
def filterNs (code : Nat) : Nat := if code = 0 then 0 else if code = 1 then 1000 else if code = 2 then 4000 else 16000

/-- The width of a filter code in ticks, for R50. -/
def filterTicks (code : Nat) : Nat := if code = 0 then 0 else if code = 1 then 54 else if code = 2 then 216 else 864

/-- A level change has held for the width of filter code `code`, has not been abandoned and does not reverse a change that was too short
(R41, R104). -/
def recognized (c : LevelChange) (code : Nat) : Bool := !c.abandoned && !c.reversal && decide (filterNs code ≤ c.heldNs)

/-- The capture PT: PT at the moment the level change began, read in PT as it is now (R41, R53, R104, R112). -/
def capturePt (c : LevelChange) (pt : Nat) : Int := (pt : Int) - c.age

/-! ### Captures (R105 to R107) -/

/-- A level change of the selected kind. -/
def EdgeSelect.takes : EdgeSelect → Bool → Bool
  | .rising, rise => rise
  | .falling, rise => !rise
  | .both, _ => true

/-- The FIFO once a capture with this number has made room: an older mark with the number, or else the oldest of four, is removed (R107). -/
def makeRoom (number : Nat) (fifo : List Mark) : List Mark :=
  if fifo.any fun m => m.number == number then fifo.filter fun m => m.number != number
  else if 4 ≤ fifo.length then fifo.drop 1 else fifo

/-- An input takes a capture (R107). -/
def MarkInput.capture (m : MarkInput) (pt : Int) : MarkInput :=
  { m with
    nextNumber := (m.nextNumber + 1) % 65536
    fifo := makeRoom m.nextNumber m.fifo ++ [⟨m.nextNumber, pt⟩] }

/-- A capture removes a pending mark (R107). -/
def MarkInput.overflows (m : MarkInput) : Bool :=
  (m.fifo.any fun k => k.number == m.nextNumber) || decide (4 ≤ m.fifo.length)

/-- An input that has accepted an edge: its decimation counter and its holdoff (R105, R106). -/
def MarkInput.accept (m : MarkInput) : MarkInput :=
  { m with
    counter := if m.decimation ≤ m.counter + 1 then 0 else m.counter + 1
    state := if 0 < m.holdoff then .holdoff else m.state
    remaining := m.holdoff }

/-- The accepted edge brings the counter to D (R106). -/
def MarkInput.decimates (m : MarkInput) : Bool := decide (m.decimation ≤ m.counter + 1)

/-! ### Expiry and moves of PT (R109, R112, R113) -/

/-- A mark has reached the end of a pairing window. -/
def Mark.expired (k : Mark) (window pt : Nat) : Bool := decide (k.pt + window ≤ pt)

/-- A step moves the capture PT of every pending mark (R112). -/
def marksStep (a : Int) (s : State) : State :=
  { s with marks := s.marks.map fun m => { m with fifo := m.fifo.map fun k => { k with pt := k.pt + a } } }

/-- A time discontinuity removes every pending mark (R113). -/
def marksDiscontinuity (s : State) : State := { s with marks := s.marks.map fun m => { m with fifo := [] } }

end Sys2Proof.Machine
end

