-- ==== Sys2Proof/Machine/Devices.lean ====
section
/-! DEFINITION. The Device Tracker's commands (Chapter 7). -/

namespace Sys2Proof.Machine

/-! ### Registering (R117, R118) -/

/-- A numeric setting of DEVICE_REGISTER: its default where every bit is set, and otherwise clamped (R118). -/
def setting (allSet default lo hi v : Int) : Int := if v = allSet then default else clampInt lo hi v

/-- The checks of step 1 of R118. -/
def registerOk (kind lane input position policy line : Nat) : Bool :=
  decide (kind ≤ 3) && decide (lane ≤ 15) && (decide (input ≤ 7) || input == 255) && decide (position ≤ 2) && decide (policy ≤ 1)
    && (policy == 0 || decide (line ≤ 7))

/-- A device as it is registered (R117, R118). -/
def newDevice (kind lane input position : Nat) (outlier offsetTol driftTol : Int) (span silence policy line : Nat) (width : Int) : Device :=
  { kind := deviceKindOf kind
    lane := lane
    input := if input = 255 then none else some input
    midFrame := position == 1 || (position == 2 && kind == 2)
    outlierLimit := setting (-1) 27000 54 1080000 outlier
    offsetTol := setting (-1) 54000 0 54000000 offsetTol
    driftTol := setting (-1) 10000 0 2000000 driftTol
    span := (setting 4294967295 10 1 600 span).toNat
    silence := (setting 4294967295 120 1 3600 silence).toNat
    rejam := if policy = 1 then some (line, (setting (-1) 54000 54 54000000 width).toNat) else none
    state := .unseen
    top := 0
    ring := []
    offsetEst := none
    driftEst := none
    outliers := 0
    silenceLeft := none
    cue := none }

/-- The settings of a device as replies carry them (R118, R138); a REPORT device has no line and no width (R177). -/
def Device.settingFields (d : Device) : List Fld :=
  [.code d.kind.code, .code d.lane, .code (orNone d.input), indicator d.midFrame, .ticks d.outlierLimit, .ticks d.offsetTol,
    .ppb d.driftTol, .word d.span, .word d.silence, present d.rejam, .code ((d.rejam.map Prod.fst).getD 0),
    .ticks ((d.rejam.map Prod.snd).getD 0)]

/-- Another registered device names the mark input (R118). -/
def State.inputTaken (s : State) (input : Nat) : Bool := s.devices.list.any fun d => d.any fun d => d.input == some input

/-- The lowest-numbered free device slot (R118). -/
def State.freeDevice (s : State) : Option Nat := (slots 32).find? fun n => (s.device n).isNone

/-- DEVICE_REGISTER (R118). -/
def execDeviceRegister (kind lane input position : Nat) (outlier offsetTol driftTol : Int) (span silence policy line : Nat) (width : Int)
    (s : State) : Host.Outcome State Fault Refusal :=
  request (fun s =>
    if !registerOk kind lane input position policy line then refuse .badValue s
    else
      match s.freeDevice with
      | none => refuse .full s
      | some n =>
        if (s.lane lane).state = .free then refuse .noSuch s
        else if input ≠ 255 ∧ s.inputTaken input then refuse .inUse s
        else
          let d := newDevice kind lane input position outlier offsetTol driftTol span silence policy line width
          accept (s.setDevice n (some d)) ([.code n] ++ d.settingFields ++ [.code d.state.code])) s

/-! ### The device checks of R117 -/

/-- A request that names a device: BAD_VALUE above 31, NO_SUCH for a free slot, before anything else (R117). -/
def withDevice (n : Nat) (f : Device → State → State × Answer) (s : State) : State × Answer :=
  if 32 ≤ n then refuse .badValue s
  else
    match s.device n with
    | none => refuse .noSuch s
    | some d => f d s

/-- The device's owned cue is cancelled, with no message back (R119, R120). -/
def cancelOwned (d : Device) (s : State) : State :=
  match d.cue with
  | none => s
  | some slot => freeSlot slot s

/-- DEVICE_REMOVE (R119). -/
def execDeviceRemove (device : Nat) (s : State) : Host.Outcome State Fault Refusal :=
  request (withDevice device fun d s =>
    accept ((cancelOwned d s).setDevice device none) [.code d.state.code, .code (orNone d.cue)]) s

/-- DEVICE_RESET_TRACK (R120). -/
def execDeviceResetTrack (device : Nat) (s : State) : Host.Outcome State Fault Refusal :=
  request (withDevice device fun d s =>
    accept ((cancelOwned d s).setDevice device (some { d.emptied with state := .unseen, cue := none }))
      [.code d.state.code, .code DeviceState.unseen.code]) s

/-! ### Observations and estimates (R121, R126 to R129) -/

/-- The newest VALID entry. -/
def Device.newestValid (d : Device) : Option Obs := d.ring.find? fun o => o.tag = .valid

/-- The oldest VALID entry. -/
def Device.oldestValid (d : Device) : Option Obs := d.ring.reverse.find? fun o => o.tag = .valid

/-- The predicted offset at an instant (R126). -/
def Device.predict (d : Device) (t : Int) : Option Int :=
  match d.driftEst, d.newestValid with
  | some drift, some b => some (b.offset + roundAway (drift * (t - b.pt)) 1000000000)
  | _, _ => d.offsetEst

/-- An observation written into the ring: TOP moves back, and the oldest of nine goes (R121). -/
def Device.write (d : Device) (o : Obs) : Device :=
  { d with top := (d.top + 7) % 8, ring := (o :: d.ring).take 8 }

/-- The ring turned over at a third consecutive outlier: the three newest VALID, every older one EMPTY (R127). -/
def turnOver (ring : List Obs) : List Obs := ring.mapIdx fun i o => { o with tag := if i < 3 then .valid else .empty }

/-- An observation's residual exceeds the outlier limit. -/
def Device.isOutlier (d : Device) (residual : Option Int) : Bool := residual.any fun r => decide (d.outlierLimit < |r|)

/-- A new observation filed and tagged (R121, R126, R127). The Bool says that the device is taken to have stepped. -/
def Device.file (d : Device) (t : Int) (count : Nat) (offset : Int) (source : Option Nat) : Device × Bool :=
  let residual := (d.predict t).map (offset - ·)
  let o : Obs := { pt := t, count := count, offset := offset, residual := residual, tag := .valid, source := source }
  if d.isOutlier residual then
    let w := d.write { o with tag := .outlier }
    if 3 ≤ d.outliers + 1 then ({ w with ring := turnOver w.ring, outliers := 0 }, true)
    else ({ w with outliers := d.outliers + 1 }, false)
  else ({ d.write o with outliers := 0 }, false)

/-- The drift of two VALID entries at least the minimum span apart (R128). -/
def Device.driftOf (d : Device) (old new : Obs) : Option Int :=
  if d.spanTicks ≤ new.pt - old.pt then
    some (clampInt (-2000000) 2000000 (roundAway ((new.offset - old.offset) * 1000000000) (new.pt - old.pt)))
  else none

/-- Both estimates recomputed from the ring (R128). -/
def Device.estimated (d : Device) : Device :=
  { d with
    offsetEst := d.newestValid.map Obs.offset
    driftEst := d.newestValid.bind fun new => d.oldestValid.bind fun old => d.driftOf old new }

/-- The state decided from the estimates (R129). -/
def Device.judged (d : Device) : DeviceState :=
  match d.driftEst with
  | none => .acquiring
  | some drift =>
    if d.offsetTol < |d.offsetEst.getD 0| ∨ d.driftTol < |drift| then .outOfTolerance else .tracking

/-! ### The re-jam cue (R132, R156) -/

/-- The first index at or after k + 2 whose label has ff = 0, where k is the frame index at PT (R132). -/
def Lane.rejamIndex (l : Lane) (pt : Nat) : Int :=
  let start := l.indexAt pt + 2
  (l.searchFrom (fun lab => lab.ff == 0) (2 * l.base + 2) start).getD start

/-- The cue that device `n` asks for (R132). -/
def rejamCue (n : Nat) (d : Device) (line width : Nat) (label : Label) : Cue :=
  { state := .suspended, owner := some n, anchor := .label d.lane label 0, current := none, action := .pulse, width := width,
    line := some line, flagOnFire := true, repeatCount := 0, left := some 1, interval := 0, drop := true, staged := none,
    due := none, remaining := 0 }

/-- The lowest FREE cue slot (R132, R156). -/
def State.freeCue (s : State) : Option Nat := (slots 64).find? fun i => (s.cue i).isNone

/-- A device decided OUT_OF_TOLERANCE under REJAM asks for its cue (R132, R156). -/
def askRejam (n : Nat) (s : State) : State :=
  match s.device n with
  | none => s
  | some d =>
    match d.rejam with
    | none => s
    | some (line, width) =>
      if d.state ≠ .outOfTolerance ∨ d.cue.isSome then s
      else
        match s.freeCue with
        | none => raise .cueTableFull s
        | some slot =>
          let l := s.lane d.lane
          let r := admitCue slot (rejamCue n d line width (l.labelAt (l.rejamIndex s.tb.pt))) s
          match r.2.2 with
          | some _ => r.1
          | none => r.1.setDevice n (some { d with state := .rejamPending, silenceLeft := none, cue := some slot })

/-! ### Taking a report (R123 to R130) -/

/-- The mark a report names: the oldest, or the one with the capture number (R110). -/
def findMark (refKind capture : Nat) (fifo : List Mark) : Option Mark :=
  if refKind = 0 then fifo.head? else fifo.find? fun k => k.number == capture

/-- A claimed mark leaves its input's FIFO (R110). -/
def claimMark (input : Option Nat) (k : Option Mark) (s : State) : State :=
  match input, k with
  | some i, some k => s.setMark i { s.mark i with fifo := (s.mark i).fifo.erase k }
  | _, _ => s

/-- Step 2 of R123. -/
def Device.refOk (d : Device) (refKind pt now : Nat) : Bool :=
  if refKind = 2 then (d.input.isNone || decide (d.kind = .suite)) && decide (pt ≤ now) else decide (refKind < 2) && d.input.isSome

/-- The mark named, under kinds 0 and 1 (R123, step 6). -/
def State.namedMark (s : State) (d : Device) (refKind capture : Nat) : Option Mark :=
  if refKind = 2 then none else d.input.bind fun i => findMark refKind capture (s.mark i).fifo

/-- The device after a filed observation: estimates, state and silence (R128 to R130). -/
def Device.observed (d : Device) (t : Int) (count : Nat) (offset : Int) (source : Option Nat) : Device × Bool :=
  let r := d.file t count offset source
  let e := r.1.estimated
  ({ e with state := e.judged, silenceLeft := some e.silenceTicks }, r.2)

/-- A report becomes an observation of device `n`: the ring, the estimates, the flags and the re-jam (R126 to R132). -/
def fileReport (n : Nat) (d : Device) (t : Int) (count : Nat) (offset : Int) (source : Option Nat) (s : State) : State :=
  let r := d.observed t count offset source
  let s := raiseIf r.2 .deviceStep (s.setDevice n (some r.1))
  let s := raiseIf (decide (r.1.state = .outOfTolerance ∧ d.state ≠ .outOfTolerance)) .deviceTolerance s
  askRejam n s

/-- The estimates in a reply, each with its valid indicator, 1 for valid (R130, R138; log entry 36). -/
def estimateFields (offset drift : Option Int) : List Fld :=
  [present offset, .ticks (offset.getD 0), present drift, .ppb (drift.getD 0)]

/-- The newest observation's residual and tag as the reply carries them (R130). -/
def Device.newestFields (d : Device) : List Fld :=
  match d.ring.head? with
  | none => [.code 0, .ticks 0, .code 0]
  | some o => [present o.residual, .ticks (o.residual.getD 0), .code o.tag.code]

/-- The reply of a report taken with OK (R130). The conditions met masked are coded 1 for met (log entry 36). -/
def reportFields (l : Lane) (number : Nat) (t : Int) (count : Nat) (expected offset : Int) (d : Device) (m : Conds) : List Fld :=
  [.short number, .ptSigned t, .label (l.labelOf count), .pt expected, .ticks offset] ++ d.newestFields
    ++ [.code d.outliers] ++ estimateFields d.offsetEst d.driftEst
    ++ [.code d.state.code, .code (orNone d.cue), indicator m.invalid, indicator m.range]

/-- The expected PT of a device whose label converts to `t` (R125). -/
def Device.expectedPt (d : Device) (l : Lane) (t : Nat) : Int := t + (if d.midFrame then (l.period / 2 : Nat) else 0)

/-- DEVICE_REPORT (R123 to R132). -/
def execDeviceReport (device : Nat) (label : Label) (refKind capture pt : Nat) (s : State) : Host.Outcome State Fault Refusal :=
  request (withDevice device fun d s =>
    let l := s.lane d.lane
    if !d.refOk refKind pt s.tb.pt then refuse .badValue s
    else if !l.wellFormed label then refuse .badValue s
    else if !s.tb.set then refuse .timeUnset s
    else if l.state = .waiting then refuse .wrongState s
    else
      let k := s.namedMark d refKind capture
      if refKind ≠ 2 ∧ k.isNone then refuse .noMark s
      else
        let t : Int := (k.map Mark.pt).getD pt
        let number := (k.map Mark.number).getD 0
        let claimed := claimMark d.input k s
        if d.state = .rejamPending ∨ (d.ring.head?.any fun o => decide (t ≤ o.pt)) then
          (claimed, ⟨.ignored, [.short number, .ptSigned ((k.map Mark.pt).getD 0), .code d.state.code]⟩)
        else
          match l.labelToPt true label 0 t with
          | .stopped m c => refuseMet d.lane m c s
          | .done m (count, at') =>
            let expected := d.expectedPt l at'
            let t' := fileReport device d t count (t - expected) (k.map Mark.number) (stick d.lane m claimed)
            accept t' (reportFields l number t count expected (t - expected) ((t'.device device).getD d) m)) s

/-! ### Silence (R133) -/

/-- The states in which the silence remaining runs. -/
def DeviceState.listens (st : DeviceState) : Bool := decide (st = .acquiring ∨ st = .tracking ∨ st = .outOfTolerance)

/-- The silence remaining has reached 0. -/
def Device.silent (d : Device) : Bool := d.state.listens && d.silenceLeft == some 0

/-- DEVICE_SILENCE_EXPIRY (R133). -/
def execDeviceSilenceExpiry (device : Nat) (s : State) : Host.Outcome State Fault Refusal :=
  event (fun s => !s.stalled && (s.device device).any Device.silent)
    (fun s =>
      raise .deviceLost
        (s.setDevice device ((s.device device).map fun d => { d with state := .lost, silenceLeft := none }))) s

/-! ### Reading (R138, R139) -/

/-- DEVICE_QUERY (R138). The indicator of the silence remaining stands before it, as every presence indicator does (log entry 9). -/
def execDeviceQuery (device : Nat) (s : State) : Host.Outcome State Fault Refusal :=
  request (withDevice device fun d s =>
    accept s
      (d.settingFields ++ [.code d.state.code] ++ estimateFields d.offsetEst d.driftEst
        ++ [.code d.outliers, present d.silenceLeft, .ticks (d.silenceLeft.getD 0), .code (orNone d.cue), .code d.ring.length])) s

/-- Entry number `j` of a ring, from the newest, as DEVICE_RING lists it (R139). -/
def Obs.fields (o : Obs) (l : Lane) (slot : Nat) : List Fld :=
  [.code slot, .ptSigned o.pt, .label (l.labelOf o.count), .ticks o.offset, present o.residual, .ticks (o.residual.getD 0),
    .code o.tag.code, .code (if o.source.isSome then 0 else 1), .short (o.source.getD 0)]

/-- DEVICE_RING (R139). -/
def execDeviceRing (device : Nat) (s : State) : Host.Outcome State Fault Refusal :=
  request (withDevice device fun d s =>
    accept s
      ([.code d.top, .code d.ring.length]
        ++ (d.ring.mapIdx fun j o => o.fields (s.lane d.lane) ((d.top + j) % 8)).flatten)) s

end Sys2Proof.Machine
end

