-- ==== Sys2Proof/Machine/LaneOps.lean ====
section
/-! DEFINITION. The Lane Unit's shared operations: boundaries and what they latch, frame pulses, mapping changes, steps, the setting of
the time and time discontinuities (sections 5.3 to 5.5 and 5.7). -/

namespace Sys2Proof.Machine

/-! ### Frame pulses (R100, R102) -/

/-- The active level of an output. -/
def FramePulse.active (f : FramePulse) : Bool := !f.activeLow

/-- The idle level of an output, the opposite of its active level. -/
def FramePulse.idle (f : FramePulse) : Bool := f.activeLow

/-- A pulse is in progress. -/
def FramePulse.pulsing (f : FramePulse) : Bool := f.level == f.active

/-- Whether an output of cadence `n` pulses at a boundary latched in a state with a label count (R102). -/
def pulsesAt (st : LaneState) (n count : Nat) : Bool :=
  match st with
  | .running => count % n == 0
  | .held => n == 1
  | _ => false

/-- An output after a boundary of its lane. -/
def FramePulse.atBoundary (f : FramePulse) (st : LaneState) (count : Nat) : FramePulse :=
  if pulsesAt st f.cadence count then { f with level := f.active, remaining := f.width } else f

/-- The outputs assigned to lane `i` are judged against the record just latched (R102). -/
def framePulses (i : Nat) (s : State) : State :=
  let l := s.lane i
  let count := (l.latched.map Latched.count).getD 0
  { s with fps := s.fps.map fun f => if f.lane = some i then f.atBoundary l.state count else f }

/-! ### Latching (R85) -/

/-- The label count latched at index `k`: the frozen label in HELD, the running label otherwise. -/
def Lane.latchCount (l : Lane) (k : Int) : Nat :=
  if l.state = .held then l.frozen.getD 0 else l.countAt k

/-- A lane after it has latched boundary `k`; its next boundary is the one after (R83, R85). -/
def Lane.latch (l : Lane) (k : Int) : Lane :=
  let t := l.boundaryPt k
  { l with
    latched := some ⟨k, t, l.latchCount k, l.sound.map fun x => l.latchSample x t⟩
    next := some (k + 1) }

/-- A lane latches boundary `k` as it now stands, and its outputs pulse. -/
def latchAndPulse (i : Nat) (k : Int) (s : State) : State := framePulses i (s.setLane i ((s.lane i).latch k))

/-- A mapping change of `delta` frames is announced to the Device Tracker and the Cue Scheduler (R92). -/
def mappingChange (i : Nat) (delta : Int) (s : State) : State :=
  recomputeLane i (devicesShift i (delta * (s.lane i).period) s)

/-- The lane that starts at boundary `k` (R84). -/
def Lane.started (l : Lane) (k : Int) : Lane :=
  { l with
    state := .running
    mapping := some (if l.atNext then ⟨k, l.pendingLabel.getD 0⟩ else ⟨0, 0⟩)
    pendingLabel := none }

/-- The mapping a release takes at boundary `k` (R91). -/
def Lane.releaseMap (l : Lane) (k : Int) : Mapping :=
  ⟨k, l.pendingLabel.getD (wrap ((l.frozen.getD 0 : Nat) + 1) l.nDay)⟩

/-- The mapping change of a release at boundary `k` (R91). -/
def Lane.releaseDelta (l : Lane) (k : Int) : Int :=
  nearestMod (((l.releaseMap k).c0 - k) - ((l.map.c0 : Int) - l.map.k0)) l.nDay

/-- The lane whose release takes effect at boundary `k` (R91). -/
def Lane.released (l : Lane) (k : Int) : Lane :=
  { l with state := .running, mapping := some (l.releaseMap k), pendingLabel := none, frozen := none }

/-- A lane's boundary of index `k` is taken (R84, R85, R91). -/
def takeBoundary (i : Nat) (k : Int) (s : State) : State :=
  let l := s.lane i
  match l.state with
  | .free => s
  | .waiting => recomputeLane i (raise .laneReleased (latchAndPulse i k (s.setLane i (l.started k))))
  | .running => latchAndPulse i k s
  | .held => latchAndPulse i k s
  | .releasing =>
    mappingChange i (l.releaseDelta k) (raise .laneReleased (latchAndPulse i k (s.setLane i (l.released k))))

/-- A lane's next boundary has fallen due: its boundary PT is at or before PT (R83). -/
def Lane.boundaryReached (l : Lane) (pt : Nat) : Bool :=
  decide (l.state ≠ .free) && l.next.any fun k => decide (l.boundaryPt k ≤ pt)

/-! ### Moves of PT (R83, R86, R87) -/

/-- Lane `i` after a forward step past its next boundary: the latest boundary at or before PT is latched at once (R86). -/
def catchUp (i : Nat) (s : State) : State :=
  if (s.lane i).boundaryReached s.tb.pt then takeBoundary i ((s.lane i).indexAt s.tb.pt) s else s

/-- The lanes whose next boundary a step has passed and whose state has a property. -/
def State.passedLanes (s : State) (p : LaneState → Bool) : List Nat :=
  (slots 16).filter fun i => (s.lane i).boundaryReached s.tb.pt && p (s.lane i).state

/-- A lane whose boundary announces a start or a release. -/
def LaneState.announces (st : LaneState) : Bool := decide (st = .waiting ∨ st = .releasing)

/-- The lanes at a step by `a` (R86). Lanes whose boundaries announce nothing act on themselves alone; those that announce have no
order among themselves (R83; log entry 3). R86 latches at once, and the stall is not read: a step that falls in a stall latches all the same
(log entry 32). -/
def lanesStep (a : Int) (s : State) : State :=
  if 0 < a then
    let quiet := s.passedLanes fun st => !st.announces
    let loud := s.passedLanes LaneState.announces
    let s' := (quiet ++ freeOrder s.draws loud).foldl (fun s i => catchUp i s) s
    if 1 < loud.length then s'.draw else s'
  else s

/-- A lane begins tracking at PT (R83). -/
def Lane.track (l : Lane) (pt : Nat) : Lane := { l with next := some (l.firstIndex pt) }

/-- The first TIME_SET: each WAITING lane begins tracking (R87). -/
def lanesTimeSet (s : State) : State :=
  { s with lanes := s.lanes.map fun l => if l.state = .waiting then l.track s.tb.pt else l }

/-- A time discontinuity resets the tracking of every watched lane (R87). -/
def lanesDiscontinuity (s : State) : State :=
  { s with lanes := s.lanes.map fun l => if l.state = .free then l else l.track s.tb.pt }

end Sys2Proof.Machine
end

