-- ==== Sys2Proof/Machine/Lanes.lean ====
section
/-! DEFINITION. The Lane Unit's commands and the frame-pulse outputs (Chapter 5). -/

namespace Sys2Proof.Machine

/-- A lane number that exists (R79). -/
def laneOk (i : Nat) : Bool := decide (i < 16)

/-- The sound part as replies carry it (R81, R98). -/
def soundFields (x : Option Sound) : List Fld :=
  [present x, .code ((x.map fun x => bit x.rate96).getD 0), .code ((x.map Sound.pull).getD 0)]

/-- A mask as requests and replies carry it: 0 masked, 1 unmasked (R96). -/
def maskFields (m : Conds) : List Fld := [indicator !m.invalid, indicator !m.range, indicator !m.inexact]

/-- Sticky flags (R96, R98) and conditions met (R95), as replies carry them. The spec states no code for either: 1 for set or met, 0 for clear, is
the model's (log entry 36). -/
def condFields (m : Conds) : List Fld := [indicator m.invalid, indicator m.range, indicator m.inexact]

/-! ### LANE_DEFINE (R81, R82) -/

/-- The lane as a LANE_DEFINE defines it, before its origin. -/
def Lane.defined (old : Lane) (code : Nat) (customP : Int) (customB mode : Nat) (phase : Int) (sound rate pull origin : Nat) : Lane :=
  let p := if code = 15 then clampNat 225000 10800000 customP else ratePeriod code
  { old.freed with
    state := .waiting
    code := code
    period := p
    base := if code = 15 then clampNat 1 250 customB else rateBase code
    df := mode == 1
    phase := clampNat 0 (p - 1) phase
    atNext := origin == 1
    mapping := if origin = 0 then some ⟨0, 0⟩ else none
    sound := if sound = 1 then some ⟨rate == 1, pull⟩ else none }

/-- The checks of step 1 of R81 on everything but the label. -/
def defineOk (code mode sound rate pull origin : Nat) : Bool :=
  (houseCodes.contains code || code == 15) && decide (mode ≤ 1) && (mode == 0 || dropAllowed code) && decide (sound ≤ 1)
    && (sound == 0 || (decide (rate ≤ 1) && decide (pull ≤ 2))) && decide (origin ≤ 1)

/-- LANE_DEFINE (R81, R82, R83). -/
def execLaneDefine (lane code : Nat) (customP : Int) (customB mode : Nat) (phase : Int) (sound rate pull origin : Nat) (label : Label)
    (s : State) : Host.Outcome State Fault Refusal :=
  request (fun s =>
    let old := s.lane lane
    let l := old.defined code customP customB mode phase sound rate pull origin
    if !laneOk lane then refuse .badValue s
    else if !defineOk code mode sound rate pull origin || (origin == 1 && !l.wellFormed label) then refuse .badValue s
    else if old.state ≠ .free then refuse .wrongState s
    else
      match (if origin = 1 then (l.bring label).bind fun x => .done .none (some (l.countOf x)) else .done .none none : Conv (Option Nat)) with
      | .stopped m c => refuseMet lane m c s
      | .done m pending =>
        let l := { l with pendingLabel := pending, next := if s.tb.set then some (l.firstIndex s.tb.pt) else none }
        accept (stick lane m (s.setLane lane l))
          ([.code l.code, .ticks l.period, .short l.base, indicator l.df, .ticks l.phase] ++ soundFields l.sound
            ++ [indicator l.atNext, l.labelField l.pendingLabel, .code l.state.code])) s

/-! ### LANE_CLEAR (R99) -/

/-- A lane that a device, a cue or a frame-pulse output names. -/
def State.laneNamed (s : State) (i : Nat) : Bool :=
  s.devices.list.any (fun d => d.any fun d => d.lane == i) || s.cues.list.any (fun c => c.any fun c => c.on i)
    || s.fps.list.any (fun f => f.lane == some i)

/-- LANE_CLEAR (R99). -/
def execLaneClear (lane : Nat) (s : State) : Host.Outcome State Fault Refusal :=
  request (fun s =>
    if !laneOk lane then refuse .badValue s
    else if (s.lane lane).state = .free then accept s []
    else if s.laneNamed lane then refuse .inUse s
    else accept (s.setLane lane (s.lane lane).freed) []) s

/-! ### Hold, label and release (R88 to R90) -/

/-- LANE_HOLD (R88). -/
def execLaneHold (lane : Nat) (s : State) : Host.Outcome State Fault Refusal :=
  request (fun s =>
    let l := s.lane lane
    if !laneOk lane then refuse .badValue s
    else
      match l.state with
      | .running =>
        let l := { l with state := .held, frozen := l.latched.map Latched.count }
        accept (suspendLane lane (s.setLane lane l)) [.code l.state.code, l.labelField l.frozen]
      | .releasing =>
        let l := { l with state := .held }
        accept (s.setLane lane l) [.code l.state.code, l.labelField l.frozen]
      | .free | .waiting | .held => refuse .wrongState s) s

/-- LANE_SET_LABEL (R89). -/
def execLaneSetLabel (lane : Nat) (label : Label) (s : State) : Host.Outcome State Fault Refusal :=
  request (fun s =>
    let l := s.lane lane
    if !laneOk lane then refuse .badValue s
    else if l.state = .free then refuse .wrongState s
    else if !l.wellFormed label then refuse .badValue s
    else if l.state ≠ .held then refuse .wrongState s
    else
      match l.bring label with
      | .stopped m c => refuseMet lane m c s
      | .done m x =>
        let l := { l with pendingLabel := some (l.countOf x) }
        accept (stick lane m (s.setLane lane l)) [l.labelField l.pendingLabel]) s

/-- LANE_RELEASE (R90). -/
def execLaneRelease (lane : Nat) (s : State) : Host.Outcome State Fault Refusal :=
  request (fun s =>
    let l := s.lane lane
    if !laneOk lane then refuse .badValue s
    else if l.state ≠ .held then refuse .wrongState s
    else
      let l := { l with state := .releasing }
      accept (s.setLane lane l) [.code l.state.code, .index (l.next.getD 0)]) s

/-! ### LANE_JAM (R93, R94) -/

/-- The whole frames of an offset under the lane's rounding, before any reduction; INEXACT where it is no whole multiple of P (R94). -/
def Lane.jamFrames (l : Lane) (o : Int) : Conv Int :=
  let d := -l.rounding.apply o l.period
  if o % l.period = 0 then .done .none d else l.meet .inexact d

/-- A lane whose labels a jam has moved by `delta` frames (R94). -/
def Lane.jammed (l : Lane) (delta : Int) : Lane :=
  { l with mapping := some ⟨l.map.k0, wrap (l.map.c0 + delta) l.nDay⟩ }

/-- LANE_JAM (R93, R94). -/
def execLaneJam (lane device : Nat) (s : State) : Host.Outcome State Fault Refusal :=
  request (fun s =>
    let l := s.lane lane
    if !laneOk lane ∨ 32 ≤ device then refuse .badValue s
    else if l.state = .free ∨ ¬ (s.device device).any (fun d => d.lane == lane) then refuse .noSuch s
    else if l.state ≠ .running then refuse .wrongState s
    else
      match (s.device device).bind Device.offsetEst with
      | none => refuse .noEstimate s
      | some o =>
        match l.jamFrames o with
        | .stopped m c => refuseMet lane m c s
        | .done m d =>
          let delta := nearestMod d l.nDay
          let s := stick lane m s
          let t := if delta = 0 then s else mappingChange lane delta (s.setLane lane ((s.lane lane).jammed delta))
          let est := ((t.device device).bind Device.offsetEst).getD 0
          accept t [.index delta, .word (t.lane lane).map.c0, .ticks est]) s

/-! ### LANE_CONVERT (R95) -/

/-- What a LANE_CONVERT answers, zeros where its direction gives none. -/
structure Converted where
  label : Label
  subFrame : Int
  sample : Int
  pt : Nat

/-- The sample position of a PT-to-label conversion: 0 on a lane without a sound part. -/
def Lane.sampleOrZero (l : Lane) (t : Int) : Conv Int :=
  match l.sound with
  | none => .done .none 0
  | some x => l.ptToSample x t

/-- The conversion of a LANE_CONVERT at PT `now` (R11 to R18, R95). -/
def Lane.convert (l : Lane) (now dir pt : Nat) (label : Label) (selector : Nat) (offset position : Int) : Conv Converted :=
  if dir = 0 then
    (l.convCount pt).bind fun c =>
      (l.sampleOrZero pt).bind fun q => .done .none ⟨l.labelOf c, l.subFrame pt, q, 0⟩
  else if dir = 1 then
    (l.labelToPt (selector == 0) label offset now).bind fun r => .done .none ⟨zeroLabel, 0, 0, r.2⟩
  else (l.sampleToPt l.soundPart position).bind fun t => .done .none ⟨zeroLabel, 0, 0, t⟩

/-- The checks of R95 that do not read the lane. -/
def convertOk (dir selector : Nat) (position : Int) : Bool :=
  decide (dir ≤ 2) && (dir != 1 || decide (selector ≤ 1)) && (dir != 2 || sampleInRange position)

/-- The checks of R95 against the lane. -/
def Lane.convertOk (l : Lane) (dir : Nat) (label : Label) (offset : Int) : Bool :=
  (dir != 1 || (l.wellFormed label && decide (0 ≤ offset ∧ offset < l.period))) && (dir != 2 || l.sound.isSome)

/-- LANE_CONVERT (R95). -/
def execLaneConvert (lane dir pt : Nat) (label : Label) (selector : Nat) (offset position : Int) (s : State) :
    Host.Outcome State Fault Refusal :=
  request (fun s =>
    let l := s.lane lane
    if !laneOk lane || !convertOk dir selector position then refuse .badValue s
    else if l.state = .free then refuse .noSuch s
    else if !l.convertOk dir label offset then refuse .badValue s
    else if l.state = .waiting then refuse .wrongState s
    else
      match l.convert s.tb.pt dir pt label selector offset position with
      | .stopped m c => refuseMet lane m c s
      | .done m r =>
        accept (stick lane m s) ([.label r.label, .ticks r.subFrame, .sample r.sample, .pt r.pt] ++ condFields m)) s

/-! ### LANE_EXCEPTIONS and LANE_QUERY (R96, R98) -/

/-- LANE_EXCEPTIONS (R96). -/
def execLaneExceptions (lane maskInvalid maskRange maskInexact rounding clearInvalid clearRange clearInexact : Nat) (s : State) :
    Host.Outcome State Fault Refusal :=
  request (fun s =>
    let l := s.lane lane
    if !laneOk lane ∨ 1 < maskInvalid ∨ 1 < maskRange ∨ 1 < maskInexact ∨ 3 < rounding ∨ 1 < clearInvalid ∨ 1 < clearRange
        ∨ 1 < clearInexact then refuse .badValue s
    else
      let l' := { l with
        masks := ⟨maskInvalid == 0, maskRange == 0, maskInexact == 0⟩
        rounding := roundingOf rounding
        sticky := ⟨l.sticky.invalid && clearInvalid == 0, l.sticky.range && clearRange == 0, l.sticky.inexact && clearInexact == 0⟩ }
      accept (s.setLane lane l') (maskFields l'.masks ++ [.code l'.rounding.code] ++ condFields l.sticky)) s

/-- The latched boundary record as LANE_QUERY carries it (R98). Its exactness is coded 1 for a whole quotient and 0 otherwise (log entry 36). -/
def Lane.latchedFields (l : Lane) : List Fld :=
  match l.latched with
  | none => [.code 0, .index 0, .pt 0, .label zeroLabel, .sample 0, .code 0]
  | some r => [.code 1, .index r.index, .pt r.pt, .label (l.labelOf r.count), .sample ((r.sample.map Prod.fst).getD 0),
      indicator ((r.sample.map Prod.snd).getD false)]

/-- LANE_QUERY (R98). -/
def execLaneQuery (lane : Nat) (s : State) : Host.Outcome State Fault Refusal :=
  request (fun s =>
    let l := s.lane lane
    if !laneOk lane then refuse .badValue s
    else
      accept s
        ([.code l.state.code, .code l.code, .ticks l.period, .short l.base, indicator l.df, .ticks l.phase] ++ soundFields l.sound
          ++ [indicator l.atNext, present l.mapping, .index l.map.k0, .word l.map.c0, .code l.rounding.code]
          ++ maskFields l.masks ++ condFields l.sticky
          ++ [present l.frozen, l.labelField l.frozen, present l.pendingLabel, l.labelField l.pendingLabel]
          ++ l.latchedFields ++ [present l.next, .index (l.next.getD 0)])) s

/-! ### Boundaries and frame pulses (R83 to R85, R91, R100 to R102) -/

/-- LANE_BOUNDARY (R83 to R85, R91): PT has reached the boundary PT of the lane's next boundary. -/
def execLaneBoundary (lane : Nat) (s : State) : Host.Outcome State Fault Refusal :=
  event (fun s => s.tb.set && !s.stalled && (s.lane lane).boundaryReached s.tb.pt)
    (fun s => takeBoundary lane ((s.lane lane).next.getD 0) s) s

/-- FRAME_PULSE_END (R102). -/
def execFramePulseEnd (output : Nat) (s : State) : Host.Outcome State Fault Refusal :=
  event (fun s => !s.stalled && (s.fp output).pulsing && (s.fp output).remaining == 0)
    (fun s => s.setFp output { s.fp output with level := (s.fp output).idle }) s

/-- The largest width of an output assigned to a lane, or to none (R101). -/
def State.widthMax (s : State) (lane : Nat) : Nat := if lane = 255 then 10799946 else (s.lane lane).period - 54

/-- PULSE_ASSIGN (R101). The reply codes the output level 1 for high and 0 for low (log entry 36). -/
def execPulseAssign (output lane : Nat) (width : Int) (polarity cadence : Nat) (s : State) : Host.Outcome State Fault Refusal :=
  request (fun s =>
    if 3 < output ∨ (15 < lane ∧ lane ≠ 255) ∨ 1 < polarity then refuse .badValue s
    else if lane ≠ 255 ∧ (s.lane lane).state = .free then refuse .noSuch s
    else
      let f : FramePulse :=
        { lane := if lane = 255 then none else some lane, width := clampNat 54 (s.widthMax lane) width, activeLow := polarity == 1,
          cadence := clampNat 1 120 cadence, level := polarity == 1, remaining := 0 }
      accept (s.setFp output f)
        [.code output, .code lane, .ticks f.width, .code polarity, .code f.cadence, indicator f.level]) s

end Sys2Proof.Machine
end

