-- ==== Sys2Proof/Machine/Marks.lean ====
section
/-! DEFINITION. The mark inputs' commands (Chapter 6). -/

namespace Sys2Proof.Machine

/-- A mark input that exists (R103). -/
def inputOk (i : Nat) : Bool := decide (i < 8)

/-! ### Edges (R104 to R108) -/

/-- A level change is a recognized edge of an input that is ARMED or HOLDOFF (R104). -/
def MarkInput.hears (m : MarkInput) (c : LevelChange) : Bool :=
  decide (m.state ≠ .disabled) && m.edge.takes c.rise && recognized c m.filter

/-- MARK_EDGE (R104 to R108): in HOLDOFF an edge is ignored; an accepted one is counted, and the one that brings the counter to D makes a
capture if the time is SET and was SET, in the same time, when the level change began. -/
def execMarkEdge (input : Nat) (c : LevelChange) (s : State) : Host.Outcome State Fault Refusal :=
  event (fun s => (s.mark input).hears c && decide ((s.mark input).state = .armed))
    (fun s =>
      let m := s.mark input
      if m.decimates && s.tb.set && !c.oldTime then
        raiseIf m.overflows .markOverflow (s.setMark input (m.accept.capture (capturePt c s.tb.pt)))
      else s.setMark input m.accept) s

/-- HOLDOFF_END (R105). -/
def execHoldoffEnd (input : Nat) (s : State) : Host.Outcome State Fault Refusal :=
  event (fun s => !s.stalled && decide ((s.mark input).state = .holdoff) && (s.mark input).remaining == 0)
    (fun s => s.setMark input { s.mark input with state := .armed }) s

/-- The oldest pending mark has reached the end of its pairing window. -/
def MarkInput.oldestExpired (m : MarkInput) (pt : Nat) : Bool := m.fifo.head?.any fun k => k.expired m.window pt

/-- MARK_EXPIRY (R109): the oldest mark expires, and the marks of the same capture PT with it. -/
def execMarkExpiry (input : Nat) (s : State) : Host.Outcome State Fault Refusal :=
  event (fun s => !s.stalled && (s.mark input).oldestExpired s.tb.pt)
    (fun s =>
      let m := s.mark input
      raise .markExpired (s.setMark input { m with fifo := m.fifo.filter fun k => decide (m.fifo.head?.map Mark.pt ≠ some k.pt) })) s

/-! ### Configuring and reading (R114 to R116) -/

/-- The input as a MARK_CONFIG leaves it (R115), its marks not yet judged against the new window. -/
def MarkInput.configured (m : MarkInput) (enable edge filter holdoff decimation window : Nat) : MarkInput :=
  { m with
    enable := enable == 1
    state := if enable = 1 then .armed else .disabled
    edge := edgeOf edge
    filter := filter
    holdoff := clampNat 0 500 holdoff * ticksPerMs
    decimation := clampNat 1 4096 decimation
    window := clampNat 100 10000 window * ticksPerMs
    counter := 0
    remaining := 0 }

/-- MARK_CONFIG (R114, R115). A mark that the new window has ended expires when the request is taken, as R115 says, and the stall, in which R38 and
R109 let no mark expire, is not read: the model's choice (log entry 39). -/
def execMarkConfig (input enable edge filter holdoff decimation window : Nat) (s : State) : Host.Outcome State Fault Refusal :=
  request (fun s =>
    if !inputOk input ∨ 1 < enable ∨ 2 < edge ∨ 3 < filter then refuse .badValue s
    else
      let m := (s.mark input).configured enable edge filter holdoff decimation window
      let kept := m.fifo.filter fun k => !k.expired m.window s.tb.pt
      let s := raiseIf (decide (kept.length < m.fifo.length)) .markExpired (s.setMark input { m with fifo := kept })
      accept s
        [.code input, indicator m.enable, .code m.edge.code, .code m.filter, .word (m.holdoff / ticksPerMs),
          .word (m.window / ticksPerMs), .short m.decimation, .code m.state.code, .code kept.length]) s

/-- A pending mark as MARK_QUERY lists it (R116). -/
def Mark.fields (k : Mark) (window pt : Nat) : List Fld := [.short k.number, .ptSigned k.pt, .ticks (k.pt + window - pt)]

/-- MARK_QUERY (R116). -/
def execMarkQuery (input : Nat) (s : State) : Host.Outcome State Fault Refusal :=
  request (fun s =>
    let m := s.mark input
    if !inputOk input then refuse .badValue s
    else
      accept s
        ([indicator m.enable, .code m.state.code, .code m.edge.code, .code m.filter, .word (m.holdoff / ticksPerMs),
          .word (m.window / ticksPerMs), .short m.decimation, .short m.counter, .ticks m.remaining, .short m.nextNumber,
          .code m.fifo.length] ++ m.fifo.flatMap fun k => k.fields m.window s.tb.pt)) s

end Sys2Proof.Machine
end

