-- ==== Sys2Proof/Machine/Operands.lean ====
section
/-! DEFINITION. The byte layouts of section 10.8: the field classes (R186), the label record (R187), the kind codes with the layout of
each request's body, and the reading of a body into a command. -/

namespace Sys2Proof.Machine

/-! ### Fields to bytes -/

/-- Byte `i` of `w` bytes, most significant first, of a number. -/
def byteOf (w i n : Nat) : Byte := BitVec.ofNat 8 (n / 256 ^ (w - 1 - i))

/-- A number in `w` bytes, most significant first (R186). -/
def bytesOf (w n : Nat) : List Byte := (List.range w).map fun i => byteOf w i n

/-- A value in a class of `w` bytes, signed or not, two's complement; where it does not fit, the manual states no bytes and free ones
stand there (log entry 4). -/
def fieldBytes (w : Nat) (signed : Bool) (v : Int) : List Byte :=
  let half : Int := (256 ^ w / 2 : Nat)
  let whole : Int := (256 ^ w : Nat)
  if (if signed then -half ≤ v ∧ v < half else 0 ≤ v ∧ v < whole) then bytesOf w (v % whole).toNat
  else (List.range w).map fun i => Config.freeFieldByte w i v

/-- A field's bytes, by its class (R186, R187). -/
def Fld.bytes : Fld → List Byte
  | .code n => fieldBytes 1 false n
  | .short n => fieldBytes 2 false n
  | .word n => fieldBytes 4 false n
  | .ppb v => fieldBytes 4 true v
  | .ticks v => fieldBytes 6 true v
  | .index v => fieldBytes 6 true v
  | .sample v => fieldBytes 6 true v
  | .interval n => fieldBytes 6 false n
  | .pt v => fieldBytes 8 false v
  | .ptSigned v => fieldBytes 8 true v
  | .label l => fieldBytes 1 false l.hh ++ fieldBytes 1 false l.mm ++ fieldBytes 1 false l.ss ++ fieldBytes 1 false l.ff
      ++ fieldBytes 1 false l.ind

/-! ### Status codes -/

/-- The code of a status (section 10.8). -/
def Status.code : Status → Nat
  | .ok => 0 | .malformed => 1 | .unknownKind => 2 | .badValue => 3
  | .noSuch => 4 | .wrongState => 5 | .inUse => 6 | .full => 7
  | .notReady => 8 | .timeUnset => 9 | .invalidLabel => 10 | .range => 11
  | .inexact => 12 | .noMark => 13 | .noEstimate => 14 | .ignored => 15

/-! ### Bytes to fields -/

/-- The classes that request fields have (R186). -/
inductive Cls where
  | code | short | word | ppb | ticks | sample | interval | pt | label
  deriving DecidableEq, Repr

/-- The width of a class in bytes. -/
def Cls.width : Cls → Nat
  | .code => 1 | .short => 2 | .word => 4 | .ppb => 4 | .ticks => 6 | .sample => 6 | .interval => 6 | .pt => 8 | .label => 5

/-- An unsigned number from its bytes, most significant first. -/
def readU (l : List Byte) : Nat := l.foldl (fun n b => 256 * n + b.toNat) 0

/-- A two's complement number from its bytes. -/
def readS (l : List Byte) : Int :=
  let n := readU l
  if 2 * n < 256 ^ l.length then n else (n : Int) - (256 ^ l.length : Nat)

/-- Byte `i` of a list as a number; 0 past its end. -/
def byteAt (l : List Byte) (i : Nat) : Nat := (l.getD i 0).toNat

/-- A field from its bytes. -/
def Cls.read (c : Cls) (l : List Byte) : Fld :=
  match c with
  | .code => .code (readU l)
  | .short => .short (readU l)
  | .word => .word (readU l)
  | .ppb => .ppb (readS l)
  | .ticks => .ticks (readS l)
  | .sample => .sample (readS l)
  | .interval => .interval (readU l)
  | .pt => .pt (readU l)
  | .label => .label ⟨byteAt l 0, byteAt l 1, byteAt l 2, byteAt l 3, byteAt l 4⟩

/-- A body's fields in order, each of its class's width. -/
def readFields : List Cls → List Byte → List Fld
  | [], _ => []
  | c :: cs, l => c.read (l.take c.width) :: readFields cs (l.drop c.width)

/-- The value of an unsigned field. -/
def Fld.nat : Fld → Nat
  | .code n => n
  | .short n => n
  | .word n => n
  | .interval n => n
  | .pt v => v.toNat
  | _ => 0

/-- The value of a signed field. -/
def Fld.int : Fld → Int
  | .ppb v => v
  | .ticks v => v
  | .index v => v
  | .sample v => v
  | .ptSigned v => v
  | _ => 0

/-- The value of a label field. -/
def Fld.lab : Fld → Label
  | .label l => l
  | _ => ⟨0, 0, 0, 0, 0⟩

/-! ### Kinds and bodies -/

/-- The body of a LANE_CONVERT, by its direction byte (R95, R176). -/
def convertLayout (body : List Byte) : List Cls :=
  match byteAt body 1 with
  | 0 => [.code, .code, .pt]
  | 1 => [.code, .code, .label, .code, .ticks]
  | 2 => [.code, .code, .sample]
  | _ => [.code, .code]

/-- The field classes that the body of a kind holds, in order; none for a kind that is not in the table of section 10.8. ACK and
ATTN_ENABLE hold their count and as many flag numbers as it announces. -/
def layout (kind : Nat) (body : List Byte) : Option (List Cls) :=
  match kind with
  | 0x01 => some []
  | 0x02 => some []
  | 0x03 => some []
  | 0x04 => some (.code :: List.replicate (byteAt body 0) .code)
  | 0x05 => some (.code :: List.replicate (byteAt body 0) .code)
  | 0x06 => some []
  | 0x10 => some [.code, .code, .code]
  | 0x11 => some [.code]
  | 0x12 => some []
  | 0x18 => some [.code, .code, .ticks, .code]
  | 0x19 => some []
  | 0x20 => some [.pt]
  | 0x21 => some []
  | 0x22 => some [.code, .ppb]
  | 0x23 => some [.code, .ticks, .ticks, .word]
  | 0x24 => some []
  | 0x30 => some [.code, .code, .ticks, .short, .code, .ticks, .code, .code, .code, .code, .label]
  | 0x31 => some [.code]
  | 0x32 => some [.code]
  | 0x33 => some [.code, .label]
  | 0x34 => some [.code]
  | 0x35 => some [.code]
  | 0x36 => some (convertLayout body)
  | 0x37 => some [.code, .code, .code, .code, .code, .code, .code, .code]
  | 0x38 => some [.code, .code]
  | 0x39 => some [.code, .code, .ticks, .code, .code]
  | 0x40 => some [.code, .code, .code, .code, .word, .short, .word]
  | 0x41 => some [.code]
  | 0x50 => some [.code, .code, .code, .code, .ticks, .ticks, .ppb, .word, .word, .code, .code, .ticks]
  | 0x51 => some [.code]
  | 0x52 => some [.code, .label, .code, .short, .pt]
  | 0x53 => some [.code]
  | 0x54 => some [.code]
  | 0x55 => some [.code]
  | 0x60 => some [.code, .code, .pt, .code, .label, .ticks, .sample, .code, .ticks, .code, .code, .short, .interval, .code]
  | 0x61 => some [.code]
  | 0x62 => some [.code, .ticks, .interval, .code]
  | 0x63 => some [.code]
  | 0x64 => some [.code]
  | 0x65 => some [.code, .code, .code]
  | 0x66 => some [.code]
  | _ => none

/-- The length of a body of these classes. -/
def layoutLength (l : List Cls) : Nat := (l.map Cls.width).sum

/-- A LANE_CONVERT with a direction above 2 is judged only to hold at least the lane and the direction (R176). -/
def looseBody (kind : Nat) (body : List Byte) : Bool := kind == 0x36 && decide (2 < byteAt body 1)

/-- The body's length fits the kind (R176). -/
def lengthFits (kind : Nat) (body : List Byte) (l : List Cls) : Bool :=
  if looseBody kind body then decide (layoutLength l ≤ body.length) else body.length == layoutLength l

/-- What the Link Port makes of a frame's kind and body (R176). -/
inductive Judged where
  | unknownKind
  | malformed
  | command (i : Instr)

/-- The command of a kind with its fields; the kinds are those of section 10.8. -/
def commandOf (kind : Nat) (v : List Fld) : Option Instr :=
  let f := fun i => v.getD i (.code 0)
  let n := fun i => (f i).nat
  let z := fun i => (f i).int
  match kind with
  | 0x01 => some .identify
  | 0x02 => some .status
  | 0x03 => some .flags
  | 0x04 => some (.ack ((v.drop 1).map Fld.nat))
  | 0x05 => some (.attnEnable ((v.drop 1).map Fld.nat))
  | 0x06 => some .restart
  | 0x10 => some (.sourceConfig (n 0) (n 1) (n 2))
  | 0x11 => some (.sourceSelect (n 0))
  | 0x12 => some .sourceQuery
  | 0x18 => some (.refConfig (n 0) (n 1) (z 2) (n 3))
  | 0x19 => some .refQuery
  | 0x20 => some (.timeSet (n 0))
  | 0x21 => some .timeGet
  | 0x22 => some (.trimCal (n 0) (z 1))
  | 0x23 => some (.disciplineConfig (n 0) (z 1) (z 2) (n 3))
  | 0x24 => some .tbQuery
  | 0x30 => some (.laneDefine (n 0) (n 1) (z 2) (n 3) (n 4) (z 5) (n 6) (n 7) (n 8) (n 9) (f 10).lab)
  | 0x31 => some (.laneClear (n 0))
  | 0x32 => some (.laneHold (n 0))
  | 0x33 => some (.laneSetLabel (n 0) (f 1).lab)
  | 0x34 => some (.laneRelease (n 0))
  | 0x35 => some (.laneQuery (n 0))
  | 0x36 =>
    if n 1 = 0 then some (.laneConvert (n 0) 0 (n 2) ⟨0, 0, 0, 0, 0⟩ 0 0 0)
    else if n 1 = 1 then some (.laneConvert (n 0) 1 0 (f 2).lab (n 3) (z 4) 0)
    else if n 1 = 2 then some (.laneConvert (n 0) 2 0 ⟨0, 0, 0, 0, 0⟩ 0 0 (z 2))
    else some (.laneConvert (n 0) (n 1) 0 ⟨0, 0, 0, 0, 0⟩ 0 0 0)
  | 0x37 => some (.laneExceptions (n 0) (n 1) (n 2) (n 3) (n 4) (n 5) (n 6) (n 7))
  | 0x38 => some (.laneJam (n 0) (n 1))
  | 0x39 => some (.pulseAssign (n 0) (n 1) (z 2) (n 3) (n 4))
  | 0x40 => some (.markConfig (n 0) (n 1) (n 2) (n 3) (n 4) (n 5) (n 6))
  | 0x41 => some (.markQuery (n 0))
  | 0x50 => some (.deviceRegister (n 0) (n 1) (n 2) (n 3) (z 4) (z 5) (z 6) (n 7) (n 8) (n 9) (n 10) (z 11))
  | 0x51 => some (.deviceRemove (n 0))
  | 0x52 => some (.deviceReport (n 0) (f 1).lab (n 2) (n 3) (n 4))
  | 0x53 => some (.deviceQuery (n 0))
  | 0x54 => some (.deviceRing (n 0))
  | 0x55 => some (.deviceResetTrack (n 0))
  | 0x60 => some (.cueAdd (n 0) (n 1) (n 2) (n 3) (f 4).lab (z 5) (z 6) (n 7) (z 8) (n 9) (n 10) (n 11) (n 12) (n 13))
  | 0x61 => some (.cueCancel (n 0))
  | 0x62 => some (.cueModify (n 0) (z 1) (n 2) (n 3))
  | 0x63 => some (.cueQuery (n 0))
  | 0x64 => some (.cueList (n 0))
  | 0x65 => some (.outputSet (n 0) (n 1) (n 2))
  | 0x66 => some (.outputQuery (n 0))
  | _ => none

/-- The Link Port judges a frame: its kind, then its body's length (R176). -/
def judge (fr : Frame) : Judged :=
  let kind := fr.kind.toNat
  match layout kind fr.body with
  | none => .unknownKind
  | some l =>
    if lengthFits kind fr.body l then
      match commandOf kind (readFields l fr.body) with
      | some i => .command i
      | none => .unknownKind
    else .malformed

/-! ### Requests to frames -/

/-- The kind of a request and its fields in the order its chapter names them, as a host sends it (section 10.8); none for a command that
is no request. A LANE_CONVERT carries the operands of its direction alone (R95). -/
def requestFields (i : Instr) : Option (Nat × List Fld) :=
  match i with
  | .identify => some (0x01, [])
  | .status => some (0x02, [])
  | .flags => some (0x03, [])
  | .ack l => some (0x04, .code l.length :: l.map .code)
  | .attnEnable l => some (0x05, .code l.length :: l.map .code)
  | .restart => some (0x06, [])
  | .sourceConfig a b c => some (0x10, [.code a, .code b, .code c])
  | .sourceSelect a => some (0x11, [.code a])
  | .sourceQuery => some (0x12, [])
  | .refConfig a b v c => some (0x18, [.code a, .code b, .ticks v, .code c])
  | .refQuery => some (0x19, [])
  | .timeSet t => some (0x20, [.pt t])
  | .timeGet => some (0x21, [])
  | .trimCal a v => some (0x22, [.code a, .ppb v])
  | .disciplineConfig a v w b => some (0x23, [.code a, .ticks v, .ticks w, .word b])
  | .tbQuery => some (0x24, [])
  | .laneDefine a b v c d w e f g h l =>
    some (0x30, [.code a, .code b, .ticks v, .short c, .code d, .ticks w, .code e, .code f, .code g, .code h, .label l])
  | .laneClear a => some (0x31, [.code a])
  | .laneHold a => some (0x32, [.code a])
  | .laneSetLabel a l => some (0x33, [.code a, .label l])
  | .laneRelease a => some (0x34, [.code a])
  | .laneQuery a => some (0x35, [.code a])
  | .laneConvert a d t l e v w =>
    some (0x36, [.code a, .code d]
      ++ (if d = 0 then [.pt t] else if d = 1 then [.label l, .code e, .ticks v] else if d = 2 then [.sample w] else []))
  | .laneExceptions a b c d e f g h => some (0x37, [.code a, .code b, .code c, .code d, .code e, .code f, .code g, .code h])
  | .laneJam a b => some (0x38, [.code a, .code b])
  | .pulseAssign a b v c d => some (0x39, [.code a, .code b, .ticks v, .code c, .code d])
  | .markConfig a b c d e f g => some (0x40, [.code a, .code b, .code c, .code d, .word e, .short f, .word g])
  | .markQuery a => some (0x41, [.code a])
  | .deviceRegister a b c d u v w e f g h x =>
    some (0x50, [.code a, .code b, .code c, .code d, .ticks u, .ticks v, .ppb w, .word e, .word f, .code g, .code h, .ticks x])
  | .deviceRemove a => some (0x51, [.code a])
  | .deviceReport a l b c d => some (0x52, [.code a, .label l, .code b, .short c, .pt d])
  | .deviceQuery a => some (0x53, [.code a])
  | .deviceRing a => some (0x54, [.code a])
  | .deviceResetTrack a => some (0x55, [.code a])
  | .cueAdd a b c d l v w e x f g h i j =>
    some (0x60, [.code a, .code b, .pt c, .code d, .label l, .ticks v, .sample w, .code e, .ticks x, .code f, .code g, .short h,
      .interval i, .code j])
  | .cueCancel a => some (0x61, [.code a])
  | .cueModify a v b c => some (0x62, [.code a, .ticks v, .interval b, .code c])
  | .cueQuery a => some (0x63, [.code a])
  | .cueList a => some (0x64, [.code a])
  | .outputSet a b c => some (0x65, [.code a, .code b, .code c])
  | .outputQuery a => some (0x66, [.code a])
  | .powerOn _ _ | .resetAssert | .resetRelease _ _ | .rxdByte _ | .framingError _ | .interByteTimeout _ | .requestTake | .replySent
  | .restartEffect | .startingToRunning _ | .extMissingCycle | .extActivityLoss | .extActivityReturn | .refEdge _ | .refWindowClose
  | .holdoverExpiry | .laneBoundary _ | .framePulseEnd _ | .markEdge _ _ | .holdoffEnd _ | .markExpiry _ | .deviceSilenceExpiry _
  | .cueDue | .cuePulseEnd _ | .sourceCycle _ | .rxdReturnsHigh => none

/-- A request's frame with the host's tag. -/
def requestFrame (i : Instr) (tag : Byte) : Option Frame :=
  (requestFields i).map fun r => ⟨BitVec.ofNat 8 r.1, tag, r.2.flatMap Fld.bytes⟩

/-- A LANE_CONVERT in the form a frame gives it: the operands of the directions not asked for are zeros. -/
def frameForm : Instr → Bool
  | .laneConvert _ d t l e v w =>
    (d == 0 || t == 0) && (d == 1 || (l == ⟨0, 0, 0, 0, 0⟩ && e == 0 && v == 0)) && (d == 2 || w == 0)
  | _ => true

end Sys2Proof.Machine
end

