-- ==== Sys2Proof/Machine/TimeOps.lean ====
section
/-! DEFINITION. The Timebase's shared operations: counting, steps and their announcements, the discipline states and an accepted edge
(Chapter 4), with the source change that acts on them (R34) and the Reference Monitor's stored times (R53). -/

namespace Sys2Proof.Machine

/-! ### Counting (R58, R59) -/

/-- The tick fraction's unit: 10^-10 tick. -/
def fracUnit : Nat := 10000000000

/-- What one cycle of a source adds, in 10^-10 tick, at a trim in ppb: 1 + A/10^9 ticks for XO, 5.4 × (1 + A/10^9) for EXT (R58). -/
def cycleAmount (which : Source) (trim : Int) : Nat :=
  match which with
  | .xo => (10 * (1000000000 + trim)).toNat
  | .ext => (54 * (1000000000 + trim)).toNat

/-- A frame-pulse output after PT has counted `n` ticks (R102). -/
def FramePulse.counted (n : Nat) (f : FramePulse) : FramePulse := { f with remaining := f.remaining - n }

/-- A mark input after PT has counted `n` ticks (R105). -/
def MarkInput.counted (n : Nat) (m : MarkInput) : MarkInput := { m with remaining := m.remaining - n }

/-- A device after PT has counted `n` ticks (R133). -/
def Device.counted (n : Nat) (d : Device) : Device := { d with silenceLeft := d.silenceLeft.map (· - n) }

/-- A cue after PT has counted `n` ticks (R149). -/
def Cue.counted (n : Nat) (c : Cue) : Cue := { c with remaining := c.remaining - n }

/-- PT counts `n` ticks, and every duration measured in PT with it (R58, R59). -/
def countTicks (n : Nat) (s : State) : State :=
  let s := s.putPt (s.tb.pt + n)
  { s with
    tb := { s.tb with elapsed := if s.tb.state = .holdover then s.tb.elapsed + n else s.tb.elapsed }
    fps := s.fps.map (FramePulse.counted n)
    marks := s.marks.map (MarkInput.counted n)
    devices := s.devices.map (Option.map (Device.counted n))
    cues := s.cues.map (Option.map (Cue.counted n)) }

/-- A cycle of the selected RUNNING source: the fraction keeps the remainder of what it adds (R58). -/
def countCycle (which : Source) (s : State) : State :=
  let sum := s.tb.frac + cycleAmount which s.tb.trim
  countTicks (sum / fracUnit) { s with tb := { s.tb with frac := sum % fracUnit } }

/-! ### The discipline states (R65, R66, R72 to R74) -/

/-- The applied trim's clamp, and the integral term's (R68). -/
def clampTrim (v : Int) : Int := clampInt (-100000) 100000 v

/-- The calibration trim of the selected source. -/
def State.selectedCal (s : State) : Int := s.src.selected.cal

/-- Entry to FREERUN (R73 to R75). -/
def Timebase.toFreerun (t : Timebase) (cal : Int) : Timebase :=
  { t with state := .freerun, i := cal, p := 0, trim := cal, entry := false, inWin := 0, outWin := 0, elapsed := 0 }

/-- Entry to LOCKING with loop terms (R66). -/
def Timebase.toLocking (t : Timebase) (i p : Int) : Timebase :=
  { t with state := .locking, i := i, p := p, trim := clampTrim (i + p), entry := true, inWin := 0, outWin := 0, elapsed := 0 }

/-- Entry to HOLDOVER (R72). -/
def Timebase.toHoldover (t : Timebase) : Timebase :=
  { t with state := .holdover, p := 0, trim := t.i, entry := false, inWin := 0, outWin := 0, elapsed := 0 }

/-- The holdover limit in ticks (R73). -/
def Timebase.limitTicks (t : Timebase) : Nat := t.limit * ticksPerSecond

/-- HOLDOVER expires (R73). -/
def expireHoldover (s : State) : State := raise .holdoverExpired (s.setTb (s.tb.toFreerun s.selectedCal))

/-- The message that the reference has become PRESENT (R65). -/
def Timebase.refArrived (t : Timebase) (cal : Int) : Timebase :=
  let t := { t with refPresent := true }
  match t.state with
  | .freerun => if t.enable then t.toLocking cal 0 else t
  | .holdover => t.toLocking t.i 0
  | .locking => t
  | .locked => t

/-- The message that the reference is no longer PRESENT (R65). -/
def Timebase.refLost (t : Timebase) : Timebase :=
  let t := { t with refPresent := false }
  match t.state with
  | .locking => t.toHoldover
  | .locked => t.toHoldover
  | .freerun => t
  | .holdover => t

/-- A source change hands the Timebase the new source's calibration trim (R34). -/
def Timebase.sourceChanged (t : Timebase) (cal : Int) : Timebase :=
  match t.state with
  | .freerun => { t with i := cal, p := 0, trim := cal }
  | .locking => t.toLocking cal 0
  | .locked => t.toLocking cal 0
  | .holdover => { t with i := cal, p := 0, trim := cal }

/-- The selection changes (R34). -/
def changeSource (which : Source) (s : State) : State :=
  let s := s.setSrc { s.src with selection := which }
  s.setTb (s.tb.sourceChanged (s.src.of which).cal)

/-! ### Moves of PT (R53, R71) -/

/-- The Reference Monitor's stored times moved by `a` (R53). -/
def RefMon.moved (r : RefMon) (a : Int) : RefMon :=
  { r with
    lastAccepted := r.lastAccepted.map (· + a)
    expectedPt := r.expectedPt.map (· + a)
    prev := r.prev.map (· + a) }

/-- PT is stepped by `a`, PT_STEP is raised, and the step is announced to the five blocks (R67, R71). -/
def stepPt (a : Int) (s : State) : State :=
  let s := raise .ptStep (s.putPt (s.tb.pt + a))
  let s := devicesStep a (marksStep a (s.setRef (s.ref.moved a)))
  unordered (lanesStep a) (cuesStep a) s

/-! ### An accepted edge (R67 to R70) -/

/-- A loop quotient, rounded toward zero (R68, R20). -/
def loopQuot (e : Int) (k period : Nat) : Int := (e * 1000000000).tdiv (k * period : Nat)

/-- The loop's update from an edge's phase error (R68). -/
def Timebase.loop (t : Timebase) (e : Int) (period : Nat) : Timebase :=
  let p := -loopQuot e 16 period
  let i := clampTrim (t.i - loopQuot e 1024 period)
  { t with p := p, i := i, trim := clampTrim (i + p) }

/-- LOCKING counts in-window edges; the sixteenth locks (R69). The Bool says that lock was acquired. -/
def Timebase.countIn (t : Timebase) (e : Int) : Timebase × Bool :=
  if |e| ≤ t.window then
    if 16 ≤ t.inWin + 1 then ({ t with state := .locked, inWin := 0, outWin := 0 }, true)
    else ({ t with inWin := t.inWin + 1 }, false)
  else ({ t with inWin := 0 }, false)

/-- LOCKED counts out-of-window edges; the fourth loses lock (R70). The Bool says that lock was lost. -/
def Timebase.countOut (t : Timebase) (e : Int) : Timebase × Bool :=
  if 10 * t.window < |e| then
    if 4 ≤ t.outWin + 1 then (t.toLocking t.i t.p, true)
    else ({ t with outWin := t.outWin + 1 }, false)
  else ({ t with outWin := 0 }, false)

/-- The entry edge's error is beyond the step threshold (R67). -/
def Timebase.steps (t : Timebase) (e : Int) : Bool := t.entry && decide (t.threshold < |e|)

/-- The Timebase takes an accepted edge with its phase error and the house period (R67 to R70). -/
def takeEdge (e : Int) (period : Nat) (s : State) : State :=
  match s.tb.state with
  | .freerun => s
  | .holdover => s
  | .locking =>
    let stepped := s.tb.steps e
    let s := s.setTb { s.tb with entry := false }
    let s := if stepped then stepPt (-e) s else s
    let e := if stepped then 0 else e
    let r := (s.tb.loop e period).countIn e
    raiseIf r.2 .lockAcquired (s.setTb r.1)
  | .locked =>
    let r := (s.tb.loop e period).countOut e
    raiseIf r.2 .lockLost (s.setTb r.1)

end Sys2Proof.Machine
end

