-- ==== Sys2Proof/Machine/Sources.lean ====
section
/-! DEFINITION. The clock sources' commands (Chapter 2) and a source's cycle (R58). -/

namespace Sys2Proof.Machine

/-- The cycle count of a wait code (R27). -/
def waitCycles (which : Source) (code : Nat) : Nat :=
  match which with
  | .xo => 270000 * 2 ^ code
  | .ext => 50000 * 2 ^ code

/-- A record whose enable is written on, with a wait code (R31, R32). -/
def SourceRec.switchedOn (r : SourceRec) (wait : Nat) : SourceRec :=
  match r.state with
  | .off => { r with enable := true, state := .starting, progress := 0, wait := wait }
  | .starting => { r with wait := wait, progress := if wait = r.wait then r.progress else 0 }
  | .running => { r with wait := wait }
  | .failed => { r with wait := wait }

/-- A record whose enable is written off, with a wait code (R31, R32). -/
def SourceRec.switchedOff (r : SourceRec) (wait : Nat) : SourceRec :=
  { r with enable := false, state := .off, progress := 0, wait := wait }

/-- The stall indicator (R33). -/
def stallField (s : State) : Fld := indicator s.stalled

/-- SOURCE_CONFIG (R31, R32). A request that meets both refusals is refused with BAD_VALUE: the order is the model's, the spec states none (log entry 38). -/
def execSourceConfig (source enable wait : Nat) (s : State) : Host.Outcome State Fault Refusal :=
  request (fun s =>
    if 1 < source ∨ 1 < enable ∨ 3 < wait then refuse .badValue s
    else
      let which := sourceOf source
      if enable = 0 ∧ s.src.selection = which then refuse .inUse s
      else
        let r := s.src.of which
        let r' := if enable = 1 then r.switchedOn wait else r.switchedOff wait
        let x := s.src.setRec which r'
        let x := if which = .ext ∧ enable = 0 then { x with missing := 0 } else x
        accept (s.setSrc x) [.code source, indicator r'.enable, .code r'.wait, .code r'.state.code]) s

/-- SOURCE_SELECT (R33, R34, R38). -/
def execSourceSelect (source : Nat) (s : State) : Host.Outcome State Fault Refusal :=
  request (fun s =>
    if 1 < source then refuse .badValue s
    else
      let which := sourceOf source
      if s.src.selection = which then accept s [.code source, stallField s]
      else if (s.src.of which).state = .running then
        let t := changeSource which s
        accept t [.code source, stallField t]
      else refuse .notReady s) s

/-- A record as SOURCE_QUERY carries it (R39). -/
def SourceRec.fields (r : SourceRec) : List Fld :=
  [indicator r.enable, .code r.state.code, .code r.wait, .word (if r.state = .starting then r.progress else 0), .ppb r.cal]

/-- SOURCE_QUERY (R39). -/
def execSourceQuery (s : State) : Host.Outcome State Fault Refusal :=
  request (fun s =>
    accept s ([.code (sourceCode s.src.selection), stallField s] ++ s.src.xo.fields ++ s.src.ext.fields ++ [.code s.src.missing])) s

/-- TRIM_CAL (R35, R74). -/
def execTrimCal (source : Nat) (trim : Int) (s : State) : Host.Outcome State Fault Refusal :=
  request (fun s =>
    if 1 < source then refuse .badValue s
    else
      let which := sourceOf source
      let v := clampTrim trim
      let t := s.setSrc (s.src.setRec which { s.src.of which with cal := v })
      let t := if s.src.selection = which ∧ s.tb.state = .freerun then t.setTb { t.tb with i := v, p := 0, trim := v } else t
      accept t [.code source, .ppb v]) s

/-- STARTING_TO_RUNNING (R27): the wait progress has reached the cycle count of the wait code. -/
def execStartingToRunning (which : Source) (s : State) : Host.Outcome State Fault Refusal :=
  event (fun s => decide ((s.src.of which).state = .starting ∧ waitCycles which (s.src.of which).wait ≤ (s.src.of which).progress))
    (fun s => raise .sourceReady (s.setSrc (s.src.setRec which { s.src.of which with state := .running, progress := 0 }))) s

/-- EXT_MISSING_CYCLE (R29): the monitor runs while EXT's enable is on. -/
def execExtMissingCycle (s : State) : Host.Outcome State Fault Refusal :=
  event (fun s => s.src.ext.enable)
    (fun s =>
      let x := s.src
      s.setSrc { x with
        missing := x.missing + 1
        ext := if x.ext.state = .starting then { x.ext with progress := 0 } else x.ext }) s

/-- XO as a fallback finds it: a stopped XO is started, and a settling one goes on (R37). -/
def SourceRec.fallback (r : SourceRec) : SourceRec :=
  if r.state = .off then { r with enable := true, state := .starting, progress := 0 } else r

/-- EXT loses activity (R29), with the fallback when it is selected (R36, R37). -/
def loseExt (s : State) : State :=
  let s := raise .sourceFailed (s.setSrc { s.src with ext := { s.src.ext with state := .failed, progress := 0 } })
  if s.src.selection = .ext then
    let s := raiseIf (decide (s.src.xo.state ≠ .running)) .ptStall (raise .sourceFallback s)
    changeSource .xo (s.setSrc { s.src with xo := s.src.xo.fallback })
  else s

/-- EXT_ACTIVITY_LOSS (R29): the missing-cycle count has reached 20 in STARTING or RUNNING. -/
def execExtActivityLoss (s : State) : Host.Outcome State Fault Refusal :=
  event (fun s => decide (20 ≤ s.src.missing ∧ (s.src.ext.state = .starting ∨ s.src.ext.state = .running))) loseExt s

/-- The first EXT_IN edge in FAILED (R30). -/
def returnExt (s : State) : State :=
  s.setSrc { s.src with ext := { s.src.ext with state := .starting, progress := 0 }, missing := 0 }

/-- EXT_ACTIVITY_RETURN (R30). -/
def execExtActivityReturn (s : State) : Host.Outcome State Fault Refusal :=
  event (fun s => decide (s.src.ext.state = .failed)) returnExt s

/-- A cycle in STARTING adds one to the wait progress (R27). -/
def SourceRec.cycled (r : SourceRec) : SourceRec := if r.state = .starting then { r with progress := r.progress + 1 } else r

/-- PT counts the cycles of the selected source while it is RUNNING (R28, R58). -/
def countIfDriving (which : Source) (s : State) : State :=
  if s.src.selection = which ∧ (s.src.of which).state = .running then countCycle which s else s

/-- SOURCE_CYCLE (R27, R29, R30, R58). A stopped source's cycles are not counted. -/
def execSourceCycle (which : Source) (s : State) : Host.Outcome State Fault Refusal :=
  live (fun s =>
    match which with
    | .xo => countIfDriving .xo (s.setSrc { s.src with xo := s.src.xo.cycled })
    | .ext =>
      if s.src.ext.state = .off then s
      else if s.src.ext.state = .failed then returnExt s
      else countIfDriving .ext (s.setSrc { s.src with ext := s.src.ext.cycled, missing := 0 })) s

end Sys2Proof.Machine
end

