-- ==== Sys2Proof/Machine/Reference.lean ====
section
/-! DEFINITION. The house reference's commands (Chapter 3). -/

namespace Sys2Proof.Machine

/-- The house period P_h (R40); 0 when no rate has been qualified. -/
def RefMon.housePeriod (r : RefMon) : Nat := ratePeriod (r.house.getD 0)

/-- Half of the acceptance window (R49). -/
def RefMon.halfWindow (r : RefMon) : Int := (r.housePeriod / 8 : Nat)

/-! ### Qualifying (R44 to R48) -/

/-- The house-capable code a period fits, within ±150 ppm; the bands do not overlap (R45). -/
def fitCode (t : Int) : Option Nat := houseCodes.find? fun k => decide (|t - ratePeriod k| * 1000000 ≤ 150 * ratePeriod k)

/-- The values with which a stay in QUALIFYING begins (R44, R55). -/
def RefMon.restart (r : RefMon) (prev : Option Int) : RefMon :=
  { r with state := .qualifying, prev := prev, candidate := none, qualify := 0, mismatch := false }

/-- A period fits a rate other than the one expected (R47). -/
def RefMon.mismatches (r : RefMon) (k : Nat) : Bool := decide (r.expected ≠ 0 ∧ r.expected ≠ k)

/-- A measured period's effect on the candidate, the count and the marker (R46, R47). -/
def RefMon.judgePeriod (r : RefMon) (t : Int) : RefMon :=
  match fitCode t with
  | none => { r with candidate := none, qualify := 0 }
  | some k =>
    if r.mismatches k then { r with candidate := some k, qualify := 0, mismatch := true }
    else if r.candidate = some k then { r with qualify := r.qualify + 1 }
    else { r with candidate := some k, qualify := 0 }

/-- The monitor at the edge that completes qualification (R48). -/
def RefMon.qualified (r : RefMon) (adj : Int) : RefMon :=
  let period := ratePeriod (r.candidate.getD 0)
  { r with
    state := .present, house := r.candidate, lastAccepted := some adj, expectedPt := some (adj + period), misses := 0,
    lastError := halfUp adj period, prev := none }

/-- Qualification is complete: REF_QUALIFIED, the PRESENT message, then the edge (R48). -/
def completeQualification (adj : Int) (s : State) : State :=
  let r := s.ref.qualified adj
  let s := raise .refQualified (s.setRef r)
  takeEdge r.lastError r.housePeriod (s.setTb (s.tb.refArrived s.selectedCal))

/-- An edge in QUALIFYING (R45 to R48). -/
def qualifyEdge (adj : Int) (s : State) : State :=
  match s.ref.prev with
  | none => s.setRef { s.ref with prev := some adj }
  | some before =>
    let t := adj - before
    let r := { s.ref with lastPeriod := t, prev := some adj }
    let r' := r.judgePeriod t
    let s := raiseIf (r'.mismatch && !r.mismatch) .refMismatch (s.setRef r')
    if 8 ≤ r'.qualify then completeQualification adj s else s

/-! ### Acceptance (R49, R52) -/

/-- An adjusted PT lies in the acceptance window, both ends included (R49). -/
def RefMon.accepts (r : RefMon) (adj : Int) : Bool :=
  r.expectedPt.any fun x => decide (x - r.halfWindow ≤ adj ∧ adj ≤ x + r.halfWindow)

/-- The monitor after an accepted edge (R49, R52). -/
def RefMon.accepted (r : RefMon) (adj : Int) : RefMon :=
  { r with
    lastPeriod := if r.misses = 0 then (r.lastAccepted.map (adj - ·)).getD r.lastPeriod else r.lastPeriod
    lastAccepted := some adj
    expectedPt := some (adj + r.housePeriod)
    misses := 0
    lastError := halfUp adj r.housePeriod }

/-- An edge in PRESENT (R49). -/
def presentEdge (adj : Int) (s : State) : State :=
  if s.ref.accepts adj then
    let r := s.ref.accepted adj
    takeEdge r.lastError r.housePeriod (s.setRef r)
  else s

/-- A level change on REF_IN is a recognized edge of the configured polarity that did not begin in a stall (R41, R43). -/
def RefMon.hears (r : RefMon) (c : LevelChange) : Bool :=
  c.rise != r.falling && recognized c (c.oldFilter.getD r.filter) && !c.stalled

/-- REF_EDGE (R41 to R49). -/
def execRefEdge (c : LevelChange) (s : State) : Host.Outcome State Fault Refusal :=
  event (fun s => s.ref.hears c)
    (fun s =>
      let adj := capturePt c s.tb.pt + s.ref.delay
      match s.ref.state with
      | .absent => s.setRef (s.ref.restart (some adj))
      | .qualifying => qualifyEdge adj s
      | .present => presentEdge adj s) s

/-! ### Misses and loss (R50, R51) -/

/-- The last PT of the acceptance window, with the time its filter takes (R50). -/
def RefMon.windowEnd (r : RefMon) (x : Int) : Int := x + r.halfWindow - r.delay + filterTicks r.filter

/-- The acceptance window has closed: PT exceeds its end (R50). -/
def State.windowClosed (s : State) : Bool :=
  decide (s.ref.state = .present) && !s.stalled && s.ref.expectedPt.any fun x => decide (s.ref.windowEnd x < s.tb.pt)

/-- A miss; the fourth is the loss of the reference (R50, R51). -/
def missEdge (s : State) : State :=
  let r := s.ref
  if 4 ≤ r.misses + 1 then
    let s := raise .refLost (s.setRef { r with state := .absent, expectedPt := none, misses := 0 })
    s.setTb s.tb.refLost
  else s.setRef { r with misses := r.misses + 1, expectedPt := r.expectedPt.map (· + r.housePeriod) }

/-- REF_WINDOW_CLOSE (R50, R51). -/
def execRefWindowClose (s : State) : Host.Outcome State Fault Refusal := event State.windowClosed missEdge s

/-! ### Configuring and reading (R54 to R56) -/

/-- The largest delay under an expected rate (R42). -/
def delayRange (expected : Nat) : Int := if expected = 0 then 450000 else (ratePeriod expected / 2 : Nat)

/-- The stored times follow a change of the delay by `a` (R55). -/
def RefMon.delayed (r : RefMon) (a : Int) : RefMon :=
  match r.state with
  | .absent => r
  | .qualifying => { r with prev := r.prev.map (· + a) }
  | .present => { r with lastAccepted := r.lastAccepted.map (· + a), expectedPt := r.expectedPt.map (· + a) }

/-- The configuration as replies carry it (R54). -/
def RefMon.configFields (r : RefMon) : List Fld :=
  [indicator r.falling, .code r.filter, .ticks r.delay, .code r.expected]

/-- REF_CONFIG (R54, R55). -/
def execRefConfig (polarity filter : Nat) (delay : Int) (expected : Nat) (s : State) : Host.Outcome State Fault Refusal :=
  request (fun s =>
    if 1 < polarity ∨ 3 < filter ∨ 10 < expected then refuse .badValue s
    else
      let old := s.ref
      let falling := polarity == 1
      let d := clampInt (-delayRange expected) (delayRange expected) delay
      let r := { old.delayed (d - old.delay) with falling := falling, filter := filter, delay := d, expected := expected }
      let restarts := (falling != old.falling || expected != old.expected) && decide (old.state ≠ .absent)
      let t :=
        if restarts then
          let t := s.setRef { r.restart none with expectedPt := none, misses := 0 }
          if old.state = .present then t.setTb t.tb.refLost else t
        else s.setRef r
      accept t (t.ref.configFields ++ [.code t.ref.state.code])) s

/-- REF_QUERY (R56). The expected PT is carried as a signed PT, as the last accepted edge PT is (log entry 37). -/
def execRefQuery (s : State) : Host.Outcome State Fault Refusal :=
  request (fun s =>
    let r := s.ref
    accept s
      ([.code r.state.code, .code (r.house.getD 0), .ticks r.housePeriod, .code (r.candidate.getD 0), .code r.qualify,
        .code r.misses, .ticks r.lastPeriod, .ticks r.lastError, .ptSigned (r.lastAccepted.getD 0), .ptSigned (r.expectedPt.getD 0)]
        ++ r.configFields)) s

end Sys2Proof.Machine
end

