-- ==== Sys2Proof/Machine/Timekeeping.lean ====
section
/-! DEFINITION. The Timebase's commands (Chapter 4). -/

namespace Sys2Proof.Machine

/-! ### TIME_SET (R60 to R63) -/

/-- The adjustment of a TIME_SET to `v` (R62): in LOCKING and LOCKED the least move that keeps PT's remainder modulo P_h, and not below 0. -/
def State.timeAdjust (s : State) (v : Nat) : Int :=
  match s.tb.state with
  | .freerun => 0
  | .holdover => 0
  | .locking | .locked =>
    let a := halfUp ((s.tb.pt : Int) - v) s.ref.housePeriod
    if v + a < 0 then a + s.ref.housePeriod else a

/-- The first TIME_SET: the time is SET, and the Lane Unit and the Cue Scheduler are told (R60). -/
def firstTimeSet (s : State) : State := cuesTimeSet (lanesTimeSet (s.setTb { s.tb with set := true }))

/-- A time discontinuity and its four announcements (R63). -/
def discontinuity (s : State) : State :=
  unordered devicesDiscontinuity cuesDiscontinuity (lanesDiscontinuity (marksDiscontinuity (raise .timeDiscontinuity s)))

/-- PT becomes the value taken, and the Reference Monitor's times move with it (R53, R61). -/
def movePt (v : Int) (s : State) : State := (s.putPt v).setRef (s.ref.moved (v - s.tb.pt))

/-- TIME_SET (R61 to R63). -/
def execTimeSet (time : Nat) (s : State) : Host.Outcome State Fault Refusal :=
  request (fun s =>
    if 2 ^ 56 ≤ time then refuse .badValue s
    else
      let a := s.timeAdjust time
      let t := movePt (time + a) s
      let t := if s.tb.set then discontinuity t else firstTimeSet t
      accept t [.pt (time + a), .ticks a, .code s.tb.state.code]) s

/-- TIME_GET (R77). -/
def execTimeGet (s : State) : Host.Outcome State Fault Refusal :=
  request (fun s => accept s [.pt s.tb.pt, indicator s.tb.set, .code s.tb.state.code]) s

/-! ### Holdover and the discipline's settings (R73, R75, R76, R78) -/

/-- The holdover elapsed count has reached the limit (R73). -/
def Timebase.overLimit (t : Timebase) : Bool := decide (t.state = .holdover) && decide (t.limitTicks ≤ t.elapsed)

/-- HOLDOVER_EXPIRY (R73); while PT is stalled the limit does not come to an end (R38). -/
def execHoldoverExpiry (s : State) : Host.Outcome State Fault Refusal :=
  event (fun s => s.tb.overLimit && !s.stalled) expireHoldover s

/-- A change of the discipline enable (R75). -/
def Timebase.switched (t : Timebase) (enable : Bool) (cal : Int) : Timebase :=
  if t.enable = enable then t
  else if enable then
    if t.state = .freerun ∧ t.refPresent then { t with enable := true }.toLocking cal 0 else { t with enable := true }
  else if t.state = .freerun then { t with enable := false }
  else { t with enable := false }.toFreerun cal

/-- The settings as replies carry them (R75). -/
def Timebase.settingFields (t : Timebase) : List Fld := [.ticks t.window, .ticks t.threshold, .word t.limit]

/-- DISCIPLINE_CONFIG (R75, R76). A holdover that the new limit has ended expires when the request is taken, as R76 says, and the stall, in which R38
lets no holdover limit come to an end, is not read: the model's choice (log entry 39). -/
def execDisciplineConfig (enable : Nat) (window threshold : Int) (limit : Nat) (s : State) : Host.Outcome State Fault Refusal :=
  request (fun s =>
    if 1 < enable then refuse .badValue s
    else
      let t := { s.tb with
        window := clampInt 27 27000 window
        threshold := clampInt 540 540000 threshold
        limit := clampNat 10 86400 limit }
      let s := s.setTb (t.switched (enable == 1) s.selectedCal)
      let s := if s.tb.overLimit then expireHoldover s else s
      accept s ([indicator s.tb.enable] ++ s.tb.settingFields ++ [.code s.tb.state.code])) s

/-- The holdover time left, 0 outside HOLDOVER (R78). -/
def Timebase.timeLeft (t : Timebase) : Int := if t.state = .holdover then (t.limitTicks : Int) - t.elapsed else 0

/-- TB_QUERY (R78). -/
def execTbQuery (s : State) : Host.Outcome State Fault Refusal :=
  request (fun s =>
    let t := s.tb
    accept s
      ([.code t.state.code, indicator t.enable, indicator t.refPresent, indicator t.entry, .ppb t.i, .ppb t.p, .ppb t.trim,
        .code t.inWin, .code t.outWin, .ticks t.timeLeft] ++ t.settingFields)) s

end Sys2Proof.Machine
end

