-- ==== Sys2Proof/Machine/Link.lean ====
section
/-! DEFINITION. Power, reset and the control link: frames in and out, the taking of requests, IDENTIFY, STATUS and RESTART (Chapter 10). -/

namespace Sys2Proof.Machine

/-! ### Power-on and RESET (R169, R184) -/

/-- The rate code of the straps (R169). -/
def strapCode (baud1 baud0 : Bool) : Nat := 2 * bit baud1 + bit baud0

/-- Every block at its power-on values, with a rate code; the command queue and the draw counter are the model's and stay. -/
def State.powered (s : State) (rate : Nat) : State := { State.reset with link := .reset rate, draws := s.draws, pending := s.pending }

/-- POWER_ON (R184): a recognized low level on RESET that has ended. -/
def execPowerOn (baud1 baud0 : Bool) (s : State) : Host.Outcome State Fault Refusal := .next (s.powered (strapCode baud1 baud0))

/-- RESET_ASSERT (R184): the straps are not sampled until the level ends. -/
def execResetAssert (s : State) : Host.Outcome State Fault Refusal := .next { s.powered s.link.rate with resetLow := true }

/-- RESET_RELEASE (R184). -/
def execResetRelease (baud1 baud0 : Bool) (s : State) : Host.Outcome State Fault Refusal :=
  .next (if s.resetLow then s.powered (strapCode baud1 baud0) else s)

/-! ### The CRC (R172) -/

/-- One shift of the check register, with the generator polynomial. -/
def crcShift (c : BitVec 16) : BitVec 16 := if c.msb then (c <<< 1) ^^^ 0x1021#16 else c <<< 1

/-- One byte, its most significant bit first. -/
def crcByte (c : BitVec 16) (b : Byte) : BitVec 16 :=
  crcShift (crcShift (crcShift (crcShift (crcShift (crcShift (crcShift (crcShift (c ^^^ (b.setWidth 16 <<< 8)))))))))

/-- The CRC of a list of bytes. -/
def crc (l : List Byte) : BitVec 16 := l.foldl crcByte 0xFFFF#16

/-- The CRC as the two bytes that are sent. -/
def crcBytes (l : List Byte) : List Byte := [(crc l >>> 8).setWidth 8, (crc l).setWidth 8]

/-! ### Finding frames (R171 to R175) -/

/-- The start byte. -/
def startByte : Byte := 0xC3#8

/-- The frame in the bytes from the kind to the end of the body. -/
def frameOf (bytes : List Byte) : Frame := ⟨bytes.getD 0 0, bytes.getD 1 0, bytes.drop 2⟩

/-- The received CRC equals the one computed over the length and the bytes (R172). -/
def crcGood (len : Nat) (bytes : List Byte) (high low : Byte) : Bool := crcBytes (BitVec.ofNat 8 len :: bytes) == [high, low]

/-- The hunter after a byte, and the good frame that the byte completes (R171, R172). -/
def Hunter.take (h : Hunter) (b : Byte) : Hunter × Option Frame :=
  match h with
  | .hunt => (if b = startByte then .length else .hunt, none)
  | .length => (if 2 ≤ b.toNat ∧ b.toNat ≤ 254 then .collect b.toNat [] else .hunt, none)
  | .collect len bytes =>
    let bytes := bytes ++ [b]
    (if len ≤ bytes.length then .check len bytes none else .collect len bytes, none)
  | .check len bytes none => (.check len bytes (some b), none)
  | .check len bytes (some high) => (.hunt, if crcGood len bytes high b then some (frameOf bytes) else none)

/-- A link with no request being handled: any event of the line but a taking (log entry 10). -/
def Link.settled (l : Link) : Link := { l with handling := none }

/-- A good frame joins the queue, or is discarded with LINK_OVERRUN (R175). -/
def joinQueue (fr : Option Frame) (s : State) : State :=
  match fr with
  | none => s
  | some fr =>
    if s.link.queue.length < 4 then s.setLink { s.link with queue := s.link.queue ++ [fr] } else raise .linkOverrun s

/-- RXD_BYTE (R171, R172, R175): no byte is looked for while a break is being waited out (R174). -/
def execRxdByte (b : Byte) (s : State) : Host.Outcome State Fault Refusal :=
  event (fun s => !s.link.breakWait)
    (fun s => joinQueue (s.link.hunter.take b).2 (s.setLink { s.link.settled with hunter := (s.link.hunter.take b).1, gap := 0 })) s

/-- FRAMING_ERROR (R174). -/
def execFramingError (brk : Bool) (s : State) : Host.Outcome State Fault Refusal :=
  event (fun s => !s.link.breakWait) (fun s => s.setLink { s.link.settled with hunter := .hunt, gap := 0, breakWait := brk }) s

/-- RXD_RETURNS_HIGH (R174). -/
def execRxdReturnsHigh (s : State) : Host.Outcome State Fault Refusal :=
  event (fun s => s.link.breakWait) (fun s => s.setLink { s.link.settled with breakWait := false }) s

/-- The inter-byte timeout of a rate code, in bit periods (R169). -/
def timeoutOf (rate : Nat) : Nat := if rate = 0 then 231 else if rate = 1 then 922 else if rate = 2 then 1844 else 4000

/-- INTER_BYTE_TIMEOUT (R173): the gap count stands at `gap`; beyond the timeout the frame is abandoned. -/
def execInterByteTimeout (gap : Nat) (s : State) : Host.Outcome State Fault Refusal :=
  event (fun s => decide (s.link.hunter ≠ .hunt))
    (fun s =>
      if timeoutOf s.link.rate < gap then s.setLink { s.link.settled with hunter := .hunt, gap := 0 }
      else s.setLink { s.link.settled with gap := gap }) s

/-! ### General requests (R179 to R182) -/

/-- IDENTIFY (R179). -/
def execIdentify (s : State) : Host.Outcome State Fault Refusal :=
  request (fun s => accept s [.short 0x2416, .code 1, .code s.link.rate]) s

/-- How many registered devices have a property. -/
def State.devicesWith (s : State) (p : Device → Bool) : Nat := s.devices.list.countP fun d => d.any p

/-- The device states that STATUS counts as troubled (R180). -/
def DeviceState.troubled (st : DeviceState) : Bool := decide (st = .outOfTolerance ∨ st = .rejamPending ∨ st = .lost)

/-- STATUS (R180). -/
def execStatus (s : State) : Host.Outcome State Fault Refusal :=
  request (fun s =>
    accept s
      [indicator s.tb.set, .code s.tb.state.code, .pt s.tb.pt, .code (sourceCode s.src.selection), stallField s,
        .code s.ref.state.code, .code (s.ref.house.getD 0),
        .code (s.lanes.list.countP fun l => decide (l.state ≠ .free)), .code (s.lanes.list.countP fun l => decide (l.state = .running)),
        .code (s.devicesWith fun _ => true), .code (s.devicesWith fun d => d.state.troubled),
        .code (s.cues.list.countP Option.isSome), .code s.dues.length, .code s.setFlags.length, attnField s,
        .code s.link.queue.length]) s

/-- The link when a RESTART is taken: it acts when its reply begins transmission, which is at once where no reply is in transmission
(R182). One that is due already stays due (log entry 31). -/
def Link.restarting (l : Link) : Link :=
  { l with restart := if l.sending.isNone ∨ l.restart = .due then .due else .taken }

/-- RESTART is taken (R182). -/
def execRestart (s : State) : Host.Outcome State Fault Refusal := request (fun s => accept (s.setLink s.link.restarting) []) s

/-- What RESTART sets and what it keeps (R182). -/
def State.restarted (s : State) : State :=
  { s with
    lanes := s.lanes.map Lane.freed
    fps := .fill 4 .reset
    marks := .fill 8 .reset
    devices := .fill 32 none
    cues := .fill 64 none
    dues := []
    lines := .fill 8 .reset
    attn := .fill 24 .reset
    link := { s.link with queue := [], restart := .idle } }

/-- RESTART_EFFECT (R182): the reply to a RESTART has begun transmission. -/
def execRestartEffect (s : State) : Host.Outcome State Fault Refusal :=
  event (fun s => decide (s.link.restart = .due)) State.restarted s

/-! ### Taking requests and sending replies (R176, R177) -/

/-- A request handed to its owning block; a command that is no request is handed to none. -/
def serve (i : Instr) (s : State) : Host.Outcome State Fault Refusal :=
  match i with
  | .identify => execIdentify s
  | .status => execStatus s
  | .flags => execFlags s
  | .ack l => execAck l s
  | .attnEnable l => execAttnEnable l s
  | .restart => execRestart s
  | .sourceConfig a b c => execSourceConfig a b c s
  | .sourceSelect a => execSourceSelect a s
  | .sourceQuery => execSourceQuery s
  | .trimCal a v => execTrimCal a v s
  | .refConfig a b v c => execRefConfig a b v c s
  | .refQuery => execRefQuery s
  | .timeSet t => execTimeSet t s
  | .timeGet => execTimeGet s
  | .disciplineConfig a v w b => execDisciplineConfig a v w b s
  | .tbQuery => execTbQuery s
  | .laneDefine a b v c d w e f g h l => execLaneDefine a b v c d w e f g h l s
  | .laneClear a => execLaneClear a s
  | .laneHold a => execLaneHold a s
  | .laneSetLabel a l => execLaneSetLabel a l s
  | .laneRelease a => execLaneRelease a s
  | .laneJam a b => execLaneJam a b s
  | .laneConvert a b c l d v w => execLaneConvert a b c l d v w s
  | .laneExceptions a b c d e f g h => execLaneExceptions a b c d e f g h s
  | .laneQuery a => execLaneQuery a s
  | .pulseAssign a b v c d => execPulseAssign a b v c d s
  | .markConfig a b c d e f g => execMarkConfig a b c d e f g s
  | .markQuery a => execMarkQuery a s
  | .deviceRegister a b c d u v w e f g h x => execDeviceRegister a b c d u v w e f g h x s
  | .deviceRemove a => execDeviceRemove a s
  | .deviceResetTrack a => execDeviceResetTrack a s
  | .deviceReport a l b c d => execDeviceReport a l b c d s
  | .deviceQuery a => execDeviceQuery a s
  | .deviceRing a => execDeviceRing a s
  | .cueAdd a b c d l v w e x f g h i j => execCueAdd a b c d l v w e x f g h i j s
  | .cueCancel a => execCueCancel a s
  | .cueModify a v b c => execCueModify a v b c s
  | .cueQuery a => execCueQuery a s
  | .cueList a => execCueList a s
  | .outputSet a b c => execOutputSet a b c s
  | .outputQuery a => execOutputQuery a s
  | .powerOn _ _ | .resetAssert | .resetRelease _ _ | .rxdByte _ | .framingError _ | .interByteTimeout _ | .requestTake | .replySent
  | .restartEffect | .startingToRunning _ | .extMissingCycle | .extActivityLoss | .extActivityReturn | .refEdge _ | .refWindowClose
  | .holdoverExpiry | .laneBoundary _ | .framePulseEnd _ | .markEdge _ _ | .holdoffEnd _ | .markExpiry _ | .deviceSilenceExpiry _
  | .cueDue | .cuePulseEnd _ | .sourceCycle _ | .rxdReturnsHigh => .next s

/-- The state in which an outcome leaves the part; `s` where it stopped, which no request does. -/
def stateAfter (s : State) : Host.Outcome State Fault Refusal → State
  | .next t => t
  | .fault _ => s
  | .refused _ => s

/-- A frame judged and, where it passes, carried out by its owning block, whose answer the state then holds (R176). -/
def handle (fr : Frame) (s : State) : State :=
  match judge fr with
  | .unknownKind => { s with answer := some ⟨.unknownKind, []⟩ }
  | .malformed => { s with answer := some ⟨.malformed, []⟩ }
  | .command i => stateAfter s (serve i s)

/-- A reply's kind: the request kind with 0x80 added, or a kind of 0x80 and above unchanged (R177). -/
def replyKind (kind : Byte) : Byte := if kind.toNat < 0x80 then kind + 0x80#8 else kind

/-- The reply to a frame with an answer (R177). -/
def replyTo (fr : Frame) (a : Answer) : Reply :=
  { kind := replyKind fr.kind, tag := fr.tag, body := BitVec.ofNat 8 a.status.code :: a.fields.flatMap Fld.bytes }

/-- The bytes of a frame on the line: the start byte, the length, the kind, the tag, the body and the CRC (R172, section 10.8). -/
def wireOf (kind tag : Byte) (body : List Byte) : List Byte :=
  let inner := BitVec.ofNat 8 (body.length + 2) :: kind :: tag :: body
  startByte :: inner ++ crcBytes inner

/-- A reply's bytes on TXD (R177). -/
def Reply.wire (r : Reply) : List Byte := wireOf r.kind r.tag r.body

/-- A request frame's bytes on RXD. -/
def Frame.wire (fr : Frame) : List Byte := wireOf fr.kind fr.tag fr.body

/-- A reply that is formed begins transmission at once, or waits behind the one in transmission (R177). -/
def Link.formed (l : Link) (r : Reply) : Link :=
  if l.sending.isNone then { l with sending := some r } else { l with waiting := some r }

/-- A request frame can be taken: the reply to the one before has begun transmission, and no RESTART is about to empty the queue
(R176, R182). -/
def Link.canTake (l : Link) : Bool := !l.queue.isEmpty && l.waiting.isNone && decide (l.restart ≠ .due)

/-- The oldest frame leaves the queue and becomes the request being handled (R176). -/
def Link.taken (l : Link) : Link := { l with queue := l.queue.drop 1, handling := l.queue.head? }

/-- The oldest frame is taken, carried out and answered (R176, R177). -/
def takeRequest (s : State) : State :=
  match s.link.queue.head? with
  | none => s
  | some fr =>
    let t := handle fr (s.setLink s.link.taken)
    t.setLink (t.link.formed (replyTo fr (t.answer.getD ⟨.ok, []⟩)))

/-- REQUEST_TAKE (R176, R177). -/
def execRequestTake (s : State) : Host.Outcome State Fault Refusal := event (fun s => s.link.canTake) takeRequest s

/-- The link after its reply's last byte: the waiting reply begins, and with it the restart that waits for it (R177, R182). -/
def Link.sent (l : Link) : Link :=
  { l.settled with
    sending := l.waiting
    waiting := none
    restart := if l.restart = .taken then .due else l.restart }

/-- REPLY_SENT (R177). -/
def execReplySent (s : State) : Host.Outcome State Fault Refusal :=
  event (fun s => s.link.sending.isSome) (fun s => s.setLink s.link.sent) s

end Sys2Proof.Machine
end

