-- ==== Sys2Proof/Machine/Dispatch.lean ====
section
/-! DEFINITION. The dispatch: one arm for each command, each a direct call of the command's meaning. -/

namespace Sys2Proof.Machine

def exec (i : Instr) (s : State) : Host.Outcome State Fault Refusal :=
  match i with
  | .powerOn baud1 baud0 => Sys2Proof.Machine.execPowerOn baud1 baud0 s
  | .resetAssert => Sys2Proof.Machine.execResetAssert s
  | .resetRelease baud1 baud0 => Sys2Proof.Machine.execResetRelease baud1 baud0 s
  | .rxdByte b => Sys2Proof.Machine.execRxdByte b s
  | .framingError brk => Sys2Proof.Machine.execFramingError brk s
  | .interByteTimeout gap => Sys2Proof.Machine.execInterByteTimeout gap s
  | .requestTake => Sys2Proof.Machine.execRequestTake s
  | .replySent => Sys2Proof.Machine.execReplySent s
  | .restartEffect => Sys2Proof.Machine.execRestartEffect s
  | .identify => Sys2Proof.Machine.execIdentify s
  | .status => Sys2Proof.Machine.execStatus s
  | .flags => Sys2Proof.Machine.execFlags s
  | .ack list => Sys2Proof.Machine.execAck list s
  | .attnEnable list => Sys2Proof.Machine.execAttnEnable list s
  | .restart => Sys2Proof.Machine.execRestart s
  | .sourceConfig source enable wait => Sys2Proof.Machine.execSourceConfig source enable wait s
  | .sourceSelect source => Sys2Proof.Machine.execSourceSelect source s
  | .sourceQuery => Sys2Proof.Machine.execSourceQuery s
  | .trimCal source trim => Sys2Proof.Machine.execTrimCal source trim s
  | .startingToRunning source => Sys2Proof.Machine.execStartingToRunning source s
  | .extMissingCycle => Sys2Proof.Machine.execExtMissingCycle s
  | .extActivityLoss => Sys2Proof.Machine.execExtActivityLoss s
  | .extActivityReturn => Sys2Proof.Machine.execExtActivityReturn s
  | .refConfig polarity filter delay expected => Sys2Proof.Machine.execRefConfig polarity filter delay expected s
  | .refQuery => Sys2Proof.Machine.execRefQuery s
  | .refEdge edge => Sys2Proof.Machine.execRefEdge edge s
  | .refWindowClose => Sys2Proof.Machine.execRefWindowClose s
  | .holdoverExpiry => Sys2Proof.Machine.execHoldoverExpiry s
  | .timeSet time => Sys2Proof.Machine.execTimeSet time s
  | .timeGet => Sys2Proof.Machine.execTimeGet s
  | .disciplineConfig enable window threshold limit => Sys2Proof.Machine.execDisciplineConfig enable window threshold limit s
  | .tbQuery => Sys2Proof.Machine.execTbQuery s
  | .laneDefine lane code customP customB mode phase sound rate pull origin label => Sys2Proof.Machine.execLaneDefine lane code customP customB mode phase sound rate pull origin label s
  | .laneClear lane => Sys2Proof.Machine.execLaneClear lane s
  | .laneHold lane => Sys2Proof.Machine.execLaneHold lane s
  | .laneSetLabel lane label => Sys2Proof.Machine.execLaneSetLabel lane label s
  | .laneRelease lane => Sys2Proof.Machine.execLaneRelease lane s
  | .laneJam lane device => Sys2Proof.Machine.execLaneJam lane device s
  | .laneConvert lane dir pt label selector offset position => Sys2Proof.Machine.execLaneConvert lane dir pt label selector offset position s
  | .laneExceptions lane maskInvalid maskRange maskInexact rounding clearInvalid clearRange clearInexact => Sys2Proof.Machine.execLaneExceptions lane maskInvalid maskRange maskInexact rounding clearInvalid clearRange clearInexact s
  | .laneQuery lane => Sys2Proof.Machine.execLaneQuery lane s
  | .laneBoundary lane => Sys2Proof.Machine.execLaneBoundary lane s
  | .framePulseEnd output => Sys2Proof.Machine.execFramePulseEnd output s
  | .pulseAssign output lane width polarity cadence => Sys2Proof.Machine.execPulseAssign output lane width polarity cadence s
  | .markConfig input enable edge filter holdoff decimation window => Sys2Proof.Machine.execMarkConfig input enable edge filter holdoff decimation window s
  | .markQuery input => Sys2Proof.Machine.execMarkQuery input s
  | .markEdge input edge => Sys2Proof.Machine.execMarkEdge input edge s
  | .holdoffEnd input => Sys2Proof.Machine.execHoldoffEnd input s
  | .markExpiry input => Sys2Proof.Machine.execMarkExpiry input s
  | .deviceRegister kind lane input position outlier offsetTol driftTol span silence policy line width => Sys2Proof.Machine.execDeviceRegister kind lane input position outlier offsetTol driftTol span silence policy line width s
  | .deviceRemove device => Sys2Proof.Machine.execDeviceRemove device s
  | .deviceResetTrack device => Sys2Proof.Machine.execDeviceResetTrack device s
  | .deviceReport device label refKind capture pt => Sys2Proof.Machine.execDeviceReport device label refKind capture pt s
  | .deviceSilenceExpiry device => Sys2Proof.Machine.execDeviceSilenceExpiry device s
  | .deviceQuery device => Sys2Proof.Machine.execDeviceQuery device s
  | .deviceRing device => Sys2Proof.Machine.execDeviceRing device s
  | .cueAdd slot kind pt lane label offset position action width line flag count interval late => Sys2Proof.Machine.execCueAdd slot kind pt lane label offset position action width line flag count interval late s
  | .cueCancel slot => Sys2Proof.Machine.execCueCancel slot s
  | .cueModify slot width interval action => Sys2Proof.Machine.execCueModify slot width interval action s
  | .cueQuery slot => Sys2Proof.Machine.execCueQuery slot s
  | .cueList start => Sys2Proof.Machine.execCueList start s
  | .cueDue => Sys2Proof.Machine.execCueDue s
  | .cuePulseEnd slot => Sys2Proof.Machine.execCuePulseEnd slot s
  | .outputSet line idle drive => Sys2Proof.Machine.execOutputSet line idle drive s
  | .outputQuery line => Sys2Proof.Machine.execOutputQuery line s
  | .sourceCycle source => Sys2Proof.Machine.execSourceCycle source s
  | .rxdReturnsHigh => Sys2Proof.Machine.execRxdReturnsHigh s

end Sys2Proof.Machine
end

