-- ==== Sys2Proof/Safety.lean ====
section
/-! DEFINITION. What a state of the part keeps to, block by block: the laws that the manual states of the whole part. Each holds at
`State.reset` and is kept by every step; all are decidable. -/

namespace Sys2Proof.Machine

/-! ### Attention Unit and Link Port -/

/-- A flag that is clear has its seen mark not marked (R162). -/
abbrev State.attnOk (s : State) : Prop := ∀ f ∈ s.attn.list, f.seen = true → f.set = true

/-- What the hunter has collected fits the length it holds (R171). -/
abbrev Hunter.ok : Hunter → Bool
  | .hunt => true
  | .length => true
  | .collect len bytes => decide (2 ≤ len ∧ len ≤ 254 ∧ bytes.length < len)
  | .check len bytes _ => decide (2 ≤ len ∧ len ≤ 254 ∧ bytes.length = len)

/-- The Link Port: at most four frames wait, a reply waits only behind one in transmission, and a break leaves the hunter in HUNT (R170,
R174, R175, R177, R182). -/
abbrev State.linkOk (s : State) : Prop :=
  s.link.rate ≤ 3 ∧ s.link.queue.length ≤ 4 ∧ s.link.hunter.ok = true
    ∧ (s.link.waiting.isSome = true → s.link.sending.isSome = true)
    ∧ (s.link.restart = .taken → s.link.sending.isSome = true)
    ∧ (s.link.breakWait = true → s.link.hunter = .hunt)

/-- While RESET is held low every block is at its power-on values (R184). -/
abbrev State.resetOk (s : State) : Prop :=
  s.resetLow = true → s = { State.reset with resetLow := true, link := .reset s.link.rate, draws := s.draws, pending := s.pending }

/-! ### Source Controller, Timebase and Reference Monitor -/

/-- A source's record (R26, R27). -/
abbrev SourceRec.ok (r : SourceRec) : Prop :=
  (r.enable = true ↔ r.state ≠ .off) ∧ (r.state ≠ .starting → r.progress = 0) ∧ r.wait ≤ 3 ∧ |r.cal| ≤ 100000

/-- The selected source is enabled and never FAILED; XO never fails (R26, R31, R36, R37). -/
abbrev State.sourcesOk (s : State) : Prop :=
  s.src.xo.ok ∧ s.src.ext.ok ∧ s.src.xo.state ≠ .failed ∧ s.src.selected.enable = true ∧ s.src.selected.state ≠ .failed
    ∧ (s.src.ext.enable = false → s.src.missing = 0)

/-- The loop terms and the applied trim lie in their ranges; in FREERUN they stand at the selected source's calibration trim, and in
HOLDOVER the applied trim is the integral term (R57, R68, R72, R74). -/
abbrev State.trimOk (s : State) : Prop :=
  |s.tb.i| ≤ 100000 ∧ |s.tb.p| ≤ 31250000 ∧ |s.tb.trim| ≤ 100000
    ∧ (s.tb.state = .freerun → s.tb.i = s.selectedCal ∧ s.tb.p = 0 ∧ s.tb.trim = s.tb.i)
    ∧ (s.tb.state = .holdover → s.tb.p = 0 ∧ s.tb.trim = s.tb.i)

/-- The items that have meaning in one discipline state only are 0 elsewhere, and the counts stay below the numbers that end them (R57). -/
abbrev Timebase.countsOk (t : Timebase) : Prop :=
  t.inWin ≤ 15 ∧ t.outWin ≤ 3 ∧ (t.state ≠ .locking → t.inWin = 0 ∧ t.entry = false) ∧ (t.state ≠ .locked → t.outWin = 0)
    ∧ (t.state ≠ .holdover → t.elapsed = 0)

/-- The settings lie in their ranges, PT and the tick fraction too (R1, R57). -/
abbrev Timebase.rangesOk (t : Timebase) : Prop :=
  t.pt < ptLimit ∧ t.frac < fracUnit ∧ 27 ≤ t.window ∧ t.window ≤ 27000 ∧ 540 ≤ t.threshold ∧ t.threshold ≤ 540000 ∧ 10 ≤ t.limit
    ∧ t.limit ≤ 86400

/-- The discipline state agrees with the enable and the reference view: the loop runs exactly while enabled with the reference PRESENT,
and HOLDOVER is had only without it (R65, R66, R73, R75). -/
abbrev Timebase.stateOk (t : Timebase) : Prop :=
  ((t.state = .locking ∨ t.state = .locked) ↔ (t.enable = true ∧ t.refPresent = true))
    ∧ (t.state = .holdover → t.enable = true ∧ t.refPresent = false)

/-- The Timebase's reference view is the Reference Monitor's state (R57, R65), and the monitor's items agree with its state (R40, R42, R51). -/
abbrev State.refOk (s : State) : Prop :=
  (s.tb.refPresent = true ↔ s.ref.state = .present)
    ∧ (s.ref.expectedPt.isSome = true ↔ s.ref.state = .present)
    ∧ (s.ref.state = .present → s.ref.lastAccepted.isSome = true ∧ (s.ref.house.getD 0) ∈ houseCodes)
    ∧ (s.ref.state ≠ .present → s.ref.misses = 0) ∧ s.ref.misses ≤ 3
    ∧ (s.ref.state ≠ .qualifying → s.ref.prev = none) ∧ (s.ref.state = .qualifying → s.ref.qualify ≤ 7) ∧ s.ref.qualify ≤ 8
    ∧ (∀ k ∈ s.ref.candidate, k ∈ houseCodes) ∧ (∀ k ∈ s.ref.house, k ∈ houseCodes)
    ∧ s.ref.filter ≤ 3 ∧ s.ref.expected ≤ 10 ∧ |s.ref.delay| ≤ delayRange s.ref.expected

/-! ### Lane Unit -/

/-- A lane's rate as a definition leaves it (R3, R4, R6, R81). -/
abbrev Lane.rateOk (l : Lane) : Prop :=
  (l.code ∈ houseCodes ∧ l.period = ratePeriod l.code ∧ l.base = rateBase l.code
      ∨ l.code = 15 ∧ 225000 ≤ l.period ∧ l.period ≤ 10800000 ∧ 1 ≤ l.base ∧ l.base ≤ 250)
    ∧ (l.df = true → l.code = 4 ∨ l.code = 9) ∧ l.phase < l.period

/-- The states in which a mapping is in force (R80). -/
def LaneState.mapped (st : LaneState) : Bool := decide (st = .running ∨ st = .held ∨ st = .releasing)

/-- A lane record that is not FREE (R79, R80, R82, R88, R91). -/
abbrev Lane.ok (l : Lane) : Prop :=
  l.rateOk
    ∧ (l.state.mapped = true → l.mapping.isSome = true ∧ l.latched.isSome = true ∧ l.next.isSome = true)
    ∧ (l.state = .waiting → l.latched = none ∧ (l.atNext = true → l.pendingLabel.isSome = true)
        ∧ (l.atNext = false → l.mapping = some ⟨0, 0⟩))
    ∧ (l.frozen.isSome = true ↔ l.state = .held ∨ l.state = .releasing)
    ∧ (l.state = .running → l.pendingLabel = none)
    ∧ (∀ m ∈ l.mapping, m.c0 < l.nDay) ∧ (∀ c ∈ l.pendingLabel, c < l.nDay) ∧ (∀ c ∈ l.frozen, c < l.nDay)
    ∧ (∀ r ∈ l.latched, r.count < l.nDay ∧ r.pt = l.boundaryPt r.index)
    ∧ (∀ x ∈ l.sound, x.pull ≤ 2)

/-- Every lane is FREE with its reset values, masks, rounding and sticky flags apart, or a record that holds together (R79, R98). -/
abbrev State.lanesOk (s : State) : Prop := ∀ l ∈ s.lanes.list, (l.state = .free → l = l.freed) ∧ (l.state ≠ .free → l.ok)

/-- Every device, cue and frame-pulse output that names a lane names a lane that is not FREE (R99). -/
abbrev State.namesOk (s : State) : Prop :=
  (∀ d ∈ s.devices.list, ∀ x ∈ d, (s.lane x.lane).state ≠ .free)
    ∧ (∀ c ∈ s.cues.list, ∀ x ∈ c, ∀ i ∈ x.anchor.lane?, (s.lane i).state ≠ .free)
    ∧ (∀ f ∈ s.fps.list, ∀ i ∈ f.lane, (s.lane i).state ≠ .free)

/-- A frame-pulse output (R100, R101). -/
abbrev FramePulse.ok (f : FramePulse) : Prop :=
  54 ≤ f.width ∧ 1 ≤ f.cadence ∧ f.cadence ≤ 120 ∧ (f.pulsing = false → f.remaining = 0) ∧ f.remaining ≤ f.width

/-- The frame-pulse outputs; an unassigned one rests at its idle level (R100). -/
abbrev State.fpsOk (s : State) : Prop := ∀ f ∈ s.fps.list, f.ok ∧ (f.lane = none → f.level = f.idle)

/-! ### Mark Capture Unit and Device Tracker -/

/-- A mark input (R103, R105, R107). -/
abbrev MarkInput.ok (m : MarkInput) : Prop :=
  (m.enable = false ↔ m.state = .disabled) ∧ m.filter ≤ 3 ∧ m.holdoff ≤ 27000000 ∧ 1 ≤ m.decimation ∧ m.decimation ≤ 4096
    ∧ 5400000 ≤ m.window ∧ m.window ≤ 540000000 ∧ m.counter < m.decimation ∧ (m.state ≠ .holdoff → m.remaining = 0)
    ∧ m.remaining ≤ m.holdoff ∧ m.nextNumber < 65536 ∧ m.fifo.length ≤ 4 ∧ (m.fifo.map Mark.number).Nodup
    ∧ (∀ k ∈ m.fifo, k.number < 65536)

/-- Every mark input holds at most four pending marks, with distinct numbers (R107, R109). -/
abbrev State.marksOk (s : State) : Prop := ∀ m ∈ s.marks.list, m.ok

/-- A registered device (R117, R121, R126, R128, R132, R133). -/
abbrev Device.ok (d : Device) : Prop :=
  d.lane ≤ 15 ∧ (∀ i ∈ d.input, i ≤ 7) ∧ 54 ≤ d.outlierLimit ∧ d.outlierLimit ≤ 1080000 ∧ 0 ≤ d.offsetTol ∧ d.offsetTol ≤ 54000000
    ∧ 0 ≤ d.driftTol ∧ d.driftTol ≤ 2000000 ∧ 1 ≤ d.span ∧ d.span ≤ 600 ∧ 1 ≤ d.silence ∧ d.silence ≤ 3600
    ∧ (∀ r ∈ d.rejam, r.1 ≤ 7 ∧ 54 ≤ r.2 ∧ r.2 ≤ 54000000)
    ∧ d.ring.length ≤ 8 ∧ d.top < 8 ∧ (d.ring.map Obs.pt).Pairwise (· > ·)
    ∧ d.offsetEst = d.newestValid.map Obs.offset
    ∧ (∀ v ∈ d.driftEst, |v| ≤ 2000000) ∧ (d.driftEst.isSome = true → d.newestValid.isSome = true)
    ∧ d.outliers ≤ 2
    ∧ (d.cue.isSome = true ↔ d.state = .rejamPending)
    ∧ (d.silenceLeft.isSome = true ↔ d.state.listens = true)
    ∧ (d.state = .unseen → d.ring = []) ∧ (d.ring = [] → d.state = .unseen ∨ d.state = .rejamPending)
    ∧ (∀ n ∈ d.silenceLeft, n ≤ d.silenceTicks)

/-- Every device record holds together, and no mark input is named by more than one device (R117, R118). -/
abbrev State.devicesOk (s : State) : Prop :=
  (∀ d ∈ s.devices.list, ∀ x ∈ d, x.ok) ∧ (s.devices.list.filterMap fun d => d.bind Device.input).Nodup

/-! ### Cue Scheduler -/

/-- The cue stands in the due list: WAITING, or PULSING with further firings (R145). -/
def Cue.listed (c : Cue) : Bool := decide (c.state = .waiting) || decide (c.state = .pulsing) && c.further

/-- The due list holds each WAITING cue and each PULSING cue with further firings once, in nondecreasing due PT (R145). -/
abbrev State.duesOk (s : State) : Prop :=
  s.dues.Nodup ∧ (s.dues.map s.dueOf).Pairwise (· ≤ ·)
    ∧ (∀ i ∈ s.dues, (s.cue i).any (fun c => c.listed) = true)
    ∧ (∀ i ∈ slots 64, ∀ c ∈ s.cue i, (c.due.isSome = true ↔ i ∈ s.dues) ∧ (c.listed = true → i ∈ s.dues))

/-- The holder of an output line is a PULSING cue on that line (R148). -/
abbrev State.linesOk (s : State) : Prop :=
  ∀ j ∈ slots 8, ∀ i ∈ (s.line j).holder, (s.cue i).any (fun c => decide (c.state = .pulsing ∧ c.line = some j)) = true

/-- A cue that is not FREE; a device-owned one is a single PULSE on a label under DROP, with nothing staged (R132, R140, R143, R156, R158). -/
abbrev Cue.ok (c : Cue) : Prop :=
  54 ≤ c.width ∧ c.width ≤ 54000000 ∧ (∀ j ∈ c.line, j ≤ 7) ∧ (c.action ≠ .none → c.line.isSome = true)
    ∧ (∀ n ∈ c.left, n ≤ c.repeatCount + 1) ∧ (c.state ≠ .pulsing → c.further = true ∧ c.remaining = 0)
    ∧ (∀ b ∈ c.staged, 54 ≤ b.width ∧ b.width ≤ 54000000 ∧ (b.action ≠ .none → c.line.isSome = true))
    ∧ (∀ i ∈ c.anchor.lane?, i ≤ 15)
    ∧ (c.owner.isSome = true → c.action = .pulse ∧ c.staged = none ∧ c.repeatCount = 0 ∧ c.drop = true ∧ c.anchor.lane?.isSome = true)

/-- Every cue holds together. -/
abbrev State.cuesOk (s : State) : Prop := ∀ c ∈ s.cues.list, ∀ x ∈ c, x.ok

/-- A device owns a cue exactly where the cue names it as its owner (R132, R134, R156). -/
abbrev State.ownersOk (s : State) : Prop :=
  (∀ n ∈ slots 32, ∀ d ∈ s.device n, ∀ i ∈ d.cue, (s.cue i).any (fun c => decide (c.owner = some n)) = true)
    ∧ (∀ i ∈ slots 64, ∀ c ∈ s.cue i, ∀ n ∈ c.owner, (s.device n).any (fun d => decide (d.cue = some i)) = true)

/-! ### Time validity -/

/-- While the time is UNSET no lane runs, no mark or observation is held and no cue has a due (R60). -/
abbrev State.unsetOk (s : State) : Prop :=
  s.tb.set = false →
    (∀ l ∈ s.lanes.list, (l.state = .free ∨ l.state = .waiting) ∧ l.next = none) ∧ (∀ m ∈ s.marks.list, m.fifo = [])
      ∧ (∀ d ∈ s.devices.list, ∀ x ∈ d, x.ring = []) ∧ s.dues = [] ∧ (∀ c ∈ s.cues.list, ∀ x ∈ c, x.state = .suspended)

/-- All the laws together. -/
abbrev State.lawful (s : State) : Prop :=
  s.attnOk ∧ s.linkOk ∧ s.resetOk ∧ s.sourcesOk ∧ s.trimOk ∧ s.tb.countsOk ∧ s.tb.rangesOk ∧ s.tb.stateOk ∧ s.refOk ∧ s.lanesOk
    ∧ s.namesOk ∧ s.fpsOk ∧ s.marksOk ∧ s.devicesOk ∧ s.duesOk ∧ s.linesOk ∧ s.cuesOk ∧ s.ownersOk ∧ s.unsetOk

end Sys2Proof.Machine
end

