-- ==== Sys2Proof/WellFormed.lean ====
section
/-! DEFINITION. Which commands a frame or a pin can bring: every request field lies in its class (R186) and every numbered input,
lane, device, slot or output that an event names exists. A block judges a well-formed request itself; being ill-formed means that no
frame carries it. -/

namespace Sys2Proof

/-- An unsigned field of `w` bytes (R186). -/
def fitsU (w n : Nat) : Bool := decide (n < 256 ^ w)

/-- A signed field of `w` bytes, two's complement (R186). -/
def fitsS (w : Nat) (v : Int) : Bool := decide (-(256 ^ w / 2 : Nat) ≤ v ∧ v < (256 ^ w / 2 : Nat))

/-- Each of the five bytes of a label record (R187). -/
def Label.fits (l : Label) : Bool := fitsU 1 l.hh && fitsU 1 l.mm && fitsU 1 l.ss && fitsU 1 l.ff && fitsU 1 l.ind

/-- A level change names a filter code of R41. -/
def LevelChange.fits (c : LevelChange) : Bool := c.oldFilter.all fun f => decide (f ≤ 3)

/-- A list of flags as R162 carries it, in a body of at most 252 bytes. -/
def flagsFit (l : List Nat) : Bool := decide (l.length ≤ 251) && l.all (fitsU 1)

/-- The operands of a command lie where its frame or its event can put them. -/
def Instr.WellFormed : Instr → Bool
  | .powerOn _ _ => true
  | .resetAssert => true
  | .resetRelease _ _ => true
  | .rxdByte _ => true
  | .framingError _ => true
  | .interByteTimeout _ => true
  | .requestTake => true
  | .replySent => true
  | .restartEffect => true
  | .identify => true
  | .status => true
  | .flags => true
  | .ack l => flagsFit l
  | .attnEnable l => flagsFit l
  | .restart => true
  | .sourceConfig s e w => fitsU 1 s && fitsU 1 e && fitsU 1 w
  | .sourceSelect s => fitsU 1 s
  | .sourceQuery => true
  | .trimCal s t => fitsU 1 s && fitsS 4 t
  | .startingToRunning _ => true
  | .extMissingCycle => true
  | .extActivityLoss => true
  | .extActivityReturn => true
  | .refConfig p f d e => fitsU 1 p && fitsU 1 f && fitsS 6 d && fitsU 1 e
  | .refQuery => true
  | .refEdge c => c.fits
  | .refWindowClose => true
  | .holdoverExpiry => true
  | .timeSet t => fitsU 8 t
  | .timeGet => true
  | .disciplineConfig e w t l => fitsU 1 e && fitsS 6 w && fitsS 6 t && fitsU 4 l
  | .tbQuery => true
  | .laneDefine l c p b m ph s r u o lab =>
      fitsU 1 l && fitsU 1 c && fitsS 6 p && fitsU 2 b && fitsU 1 m && fitsS 6 ph && fitsU 1 s && fitsU 1 r && fitsU 1 u && fitsU 1 o
        && lab.fits
  | .laneClear l => fitsU 1 l
  | .laneHold l => fitsU 1 l
  | .laneSetLabel l lab => fitsU 1 l && lab.fits
  | .laneRelease l => fitsU 1 l
  | .laneJam l d => fitsU 1 l && fitsU 1 d
  | .laneConvert l d pt lab sel off pos =>
      fitsU 1 l && fitsU 1 d && fitsU 8 pt && lab.fits && fitsU 1 sel && fitsS 6 off && fitsS 6 pos
  | .laneExceptions l a b c r x y z =>
      fitsU 1 l && fitsU 1 a && fitsU 1 b && fitsU 1 c && fitsU 1 r && fitsU 1 x && fitsU 1 y && fitsU 1 z
  | .laneQuery l => fitsU 1 l
  | .laneBoundary l => decide (l < 16)
  | .framePulseEnd o => decide (o < 4)
  | .pulseAssign o l w p c => fitsU 1 o && fitsU 1 l && fitsS 6 w && fitsU 1 p && fitsU 1 c
  | .markConfig i e s f h d w => fitsU 1 i && fitsU 1 e && fitsU 1 s && fitsU 1 f && fitsU 4 h && fitsU 2 d && fitsU 4 w
  | .markQuery i => fitsU 1 i
  | .markEdge i c => decide (i < 8) && c.fits
  | .holdoffEnd i => decide (i < 8)
  | .markExpiry i => decide (i < 8)
  | .deviceRegister k l i p o t d sp si po li w =>
      fitsU 1 k && fitsU 1 l && fitsU 1 i && fitsU 1 p && fitsS 6 o && fitsS 6 t && fitsS 4 d && fitsU 4 sp && fitsU 4 si && fitsU 1 po
        && fitsU 1 li && fitsS 6 w
  | .deviceRemove d => fitsU 1 d
  | .deviceResetTrack d => fitsU 1 d
  | .deviceReport d lab k c pt => fitsU 1 d && lab.fits && fitsU 1 k && fitsU 2 c && fitsU 8 pt
  | .deviceSilenceExpiry d => decide (d < 32)
  | .deviceQuery d => fitsU 1 d
  | .deviceRing d => fitsU 1 d
  | .cueAdd s k pt l lab off pos a w li f c i lt =>
      fitsU 1 s && fitsU 1 k && fitsU 8 pt && fitsU 1 l && lab.fits && fitsS 6 off && fitsS 6 pos && fitsU 1 a && fitsS 6 w && fitsU 1 li
        && fitsU 1 f && fitsU 2 c && fitsU 6 i && fitsU 1 lt
  | .cueCancel s => fitsU 1 s
  | .cueModify s w i a => fitsU 1 s && fitsS 6 w && fitsU 6 i && fitsU 1 a
  | .cueQuery s => fitsU 1 s
  | .cueList s => fitsU 1 s
  | .cueDue => true
  | .cuePulseEnd s => decide (s < 64)
  | .outputSet l i d => fitsU 1 l && fitsU 1 i && fitsU 1 d
  | .outputQuery l => fitsU 1 l
  | .sourceCycle _ => true
  | .rxdReturnsHigh => true

end Sys2Proof
end

