-- ==== Sys2Proof/Certificates/Slice0/Obligations.lean ====
section
/-! DEFINITION. The statements for the provers. Each docstring names the rules of the manual that it formalises, and says where a clause
is the model's choice. `Spec` holds the words in which the statements are written. -/

open Sys2Proof Sys2Proof.Machine

namespace Sys2Proof.Spec

/-- The state with an answer OK held: nothing else changes. -/
def ok (s : State) (fields : List Fld) : State := { s with answer := some ⟨.ok, fields⟩ }

/-- The state with a refusal held: nothing else changes. -/
def no (s : State) (st : Status) : State := { s with answer := some ⟨st, []⟩ }

/-- The link after an event of the line but a taking: no request is being handled (log entry 10). -/
def line (s : State) (l : Link) : State := { s with link := { l with handling := none } }

/-- A list of flag numbers as a reply carries it (R162). -/
def list (l : List Nat) : List Fld := .code l.length :: l.map .code

/-- The flag numbers with a property, in increasing order (R162). -/
def flags (p : Nat → Bool) : List Nat := (List.range' 1 24).filter p

/-- ATTN's level in a reply: 1 when asserted (R164, R165). -/
def attn (s : State) : Fld := .code (if (List.range' 1 24).any (fun n => (s.flagNo n).set && (s.flagNo n).enable) then 1 else 0)

/-- A whole number of ppb clamped to ±100,000. -/
def trim (v : Int) : Int := max (-100000) (min 100000 v)

/-- The bytes are taken one after another. -/
def feed : List Byte → State → Host.Outcome State Fault Refusal
  | [], s => .next s
  | b :: l, s =>
    match exec (.rxdByte b) s with
    | .next t => feed l t
    | .fault f => .fault f
    | .refused r => .refused r

/-- The label record of zeros. -/
def zero : Label := ⟨0, 0, 0, 0, 0⟩

/-- An indicator or a level in a reply: 1 for true (R177, R186). -/
def bit (b : Bool) : Fld := .code (if b then 1 else 0)

/-- The label of a held count in a reply; zeros where there is none (R177). -/
def lab (l : Lane) : Option Nat → Fld
  | some c => .label (l.labelOf c)
  | none => .label zero

/-- A lane's sticky flag for a condition is set, and LANE_EXCEPTION raised where it was clear (R22, R23, R97). -/
def stuck (s : State) (lane : Nat) (c : Cond) : State :=
  let l := s.lane lane
  let t := s.setLane lane { l with sticky := l.sticky.or c.only }
  if l.sticky.has c then t else raise .laneException t

/-- As `stuck`, where the condition is met. -/
def stuckIf (b : Bool) (s : State) (lane : Nat) (c : Cond) : State := if b then stuck s lane c else s

/-- The masked result of INVALID: ff raised to d (R21). -/
def raised (l : Lane) (p : Label) : Label := { p with ff := if l.code = 4 then 2 else 4 }

/-- A whole number clamped to PT's range (R15). -/
def clampPt (x : Int) : Int := max 0 (min (2 ^ 64 - 1) x)

/-- `r` is the whole number to which a rounding mode takes `num / den` (R19). -/
def rounds (m : Rounding) (num den r : Int) : Prop :=
  let down := r * den ≤ num ∧ num < (r + 1) * den
  let up := (r - 1) * den < num ∧ num ≤ r * den
  match m with
  | .down => down
  | .up => up
  | .towardZero => if 0 ≤ num then down else up
  | .nearestEven => 2 * |num - r * den| ≤ den ∧ (2 * |num - r * den| = den → r % 2 = 0)

/-- The whole number nearest to `num / den`, ties away from zero (R20). -/
def away (num den : Int) : Int := num.sign * ((2 * |num| + den) / (2 * den))

/-! The dues of cues (sections 1.4 to 1.6, 8.2 and 8.4). -/

/-- The PT of index `k` of a lane with a sub-frame offset (R11). -/
def place (l : Lane) (k o : Int) : Int := l.phase + k * l.period + o

/-- The label count of index `k` under the mapping held, reduced modulo N_day (R12). -/
def count (l : Lane) (k : Int) : Nat := ((l.map.c0 + (k - l.map.k0)) % l.nDay).toNat

/-- `x` is the first occurrence of a label count with a sub-frame offset at or after `r`, the day selector NEXT (R13, R14). -/
def next (l : Lane) (c : Nat) (o r x : Int) : Prop :=
  (∃ j : Int, x = place l (l.map.k0 + ((c : Int) - l.map.c0) % l.nDay + j * l.nDay) o) ∧ r ≤ x ∧ x < r + l.nDay * l.period

/-- A pattern has a wildcard (R141). -/
def any (p : Label) : Prop := p.hh = 255 ∨ p.mm = 255 ∨ p.ss = 255

/-- A pattern matches a label (R142). -/
def covers (p x : Label) : Prop := (p.hh = 255 ∨ p.hh = x.hh) ∧ (p.mm = 255 ∨ p.mm = x.mm) ∧ (p.ss = 255 ∨ p.ss = x.ss) ∧ p.ff = x.ff

/-- The search of R142 from PT `r` stops at index `k`. -/
def search (l : Lane) (p : Label) (o r k : Int) : Prop :=
  r ≤ place l k o ∧ covers p (l.labelOf (count l k)) ∧ ∀ j < k, r ≤ place l j o → ¬ covers p (l.labelOf (count l j))

/-- One search after another, each from the tick after the match before it. -/
def chain (l : Lane) (p : Label) (o : Int) : Int → List Int → Prop
  | _, [] => True
  | r, k :: ks => search l p o r k ∧ chain l p o (place l k o + 1) ks

/-- `x` is the first tick at or after the instant of sample `p` (R18). -/
def tick (l : Lane) (q : Sound) (p x : Int) : Prop :=
  p * (54000000 * q.pd) ≤ (x - place l l.map.k0 0) * (q.rate * q.pn) ∧ (x - 1 - place l l.map.k0 0) * (q.rate * q.pn) < p * (54000000 * q.pd)

/-- `x` is the due of an anchor against the reference PT `r`, under the mapping its lane holds, with the current anchor it belongs to (R141,
R142, R144, R155). -/
def due (s : State) (a : Anchor) (current : Option Int) (r x : Int) (cur : Option Int) : Prop :=
  match a with
  | .absolute pt => x = pt ∧ cur = none
  | .label i p o =>
    (any p → ∃ k, search (s.lane i) p o r k ∧ x = place (s.lane i) k o ∧ cur = some (count (s.lane i) k : Int))
      ∧ (¬ any p → ∃ c : Nat, current = some (c : Int) ∧ next (s.lane i) c o r x ∧ cur = current)
  | .sample i _ => ∃ q p, (s.lane i).sound = some q ∧ current = some p ∧ tick (s.lane i) q p x ∧ cur = current

/-- The conversion that finds a due leaves no remainder; only a SAMPLE anchor's can (R18). -/
def whole (s : State) (a : Anchor) (current : Option Int) (x : Int) : Bool :=
  match a, current with
  | .sample i _, some p =>
    (s.lane i).sound.all fun q => decide (p * (54000000 * q.pd) = (x - place (s.lane i) (s.lane i).map.k0 0) * (q.rate * q.pn))
  | _, _ => true

/-- A condition is masked on the lane of an anchor; an ABSOLUTE anchor meets none. -/
def masked (s : State) (a : Anchor) (c : Cond) : Prop := ∀ i ∈ a.lane?, (s.lane i).masks.has c = true

/-- The staged block has replaced the cue's width, interval and action (R146, step 1). -/
def restaged (c : Cue) : Cue :=
  match c.staged with
  | none => c
  | some b => { c with width := b.width, interval := b.interval, action := b.action, staged := none }

/-- `x` is the `j`-th due, from 1, of a cue's series after a firing whose due was `d`, with its current anchor (R141, R142, R147). -/
def dueAfter (s : State) (c : Cue) (d : Int) (j : Nat) (x : Int) (cur : Option Int) : Prop :=
  match c.anchor with
  | .absolute _ => x = d + j * c.interval ∧ cur = none
  | .label i p o =>
    let l := s.lane i
    l.rateOk
      ∧ (any p →
          ∃ (ks : List Int) (k : Int), ks.length + 1 = j ∧ chain l p o (d + 1) (ks ++ [k]) ∧ x = place l k o ∧ cur = some (count l k : Int))
      ∧ (¬ any p → ∃ (c₀ : Nat) (x₁ : Int), c.current = some (c₀ : Int) ∧ next l ((c₀ + c.interval) % l.nDay) o d x₁
          ∧ x = x₁ + (j - 1) * (c.interval * l.period) ∧ cur = some (((c₀ + j * c.interval) % l.nDay : Nat) : Int))
  | .sample i _ =>
    ∃ q p, (s.lane i).sound = some q ∧ c.current = some p ∧ tick (s.lane i) q (p + j * c.interval) x ∧ cur = some (p + j * c.interval)

/-- The dues of a series lie apart: an interval that CUE_ADD takes for a cue that fires again (R143). -/
def paced (s : State) (c : Cue) : Prop :=
  match c.anchor with
  | .absolute _ | .sample _ _ => 0 < c.interval
  | .label i p _ => any p ∨ 0 < c.interval ∧ c.interval < (s.lane i).nDay

/-- At the PT of `s`, the series passes `n` dues over and resumes at `x` (R147). -/
def resumes (s : State) (c : Cue) (d : Int) (n : Nat) (x : Int) (cur : Option Int) : Prop :=
  (n = 0 ∨ paced s c ∧ ∃ y z, dueAfter s c d n y z ∧ y < s.tb.pt) ∧ dueAfter s c d (n + 1) x cur ∧ s.tb.pt ≤ x

/-- A series has no due beyond its class: PT 2^64 for ABSOLUTE, sample position 2^47 for SAMPLE (R141). -/
def beyond (a : Anchor) (x : Int) (cur : Option Int) : Prop :=
  match a with
  | .absolute _ => 2 ^ 64 ≤ x
  | .label _ _ _ => False
  | .sample _ _ => ∃ p, cur = some p ∧ 2 ^ 47 ≤ p

/-- What a firing at the PT of `t` has left of the cue `c` in a slot, its due being `d` (R146, R147). After the last firing the slot is FREE, or
PULSING without a due; otherwise the series resumes, ends as its last firings are passed over, ends at the end of its class (log entry 27), or
ends at an unmasked condition, with CUE_DROPPED. A wildcard's current anchor is then its last match (R142); any other keeps the one of its
last firing (log entry 26). -/
def fired (t : State) (slot : Nat) (c : Cue) (d : Int) : Prop :=
  let r := restaged c
  let f := { r with remaining := if r.action = Action.pulse then r.width else 0, due := none }
  let spent := fun cur : Option Int => if r.action = Action.pulse then some { f with state := .pulsing, left := some 0, current := cur } else none
  let last := fun cur : Option Int => if c.anchor.wildcard then cur else c.current
  (c.left = some 1 → t.cue slot = spent c.current ∧ slot ∉ t.dues)
    ∧ (∀ m y cur, c.left = some m → 2 ≤ m → paced t r → dueAfter t r d (m - 1) y cur → y < t.tb.pt →
        t.cue slot = spent (last cur) ∧ slot ∉ t.dues)
    ∧ ∀ n x cur, (∀ m ∈ c.left, n + 2 ≤ m) → resumes t r d n x cur →
        (beyond c.anchor x cur → t.cue slot = spent c.current ∧ slot ∉ t.dues)
          ∧ (¬ beyond c.anchor x cur →
              (whole t c.anchor cur x = true ∨ masked t c.anchor .inexact) → x < 2 ^ 64 →
              t.cue slot = some { f with
                  state := if r.action = Action.pulse then .pulsing else .waiting, left := c.left.map (· - (n + 1)), current := cur
                  due := some x.toNat }
                ∧ slot ∈ t.dues
                ∧ ∀ i < 16, c.anchor.lane? = some i → whole t c.anchor cur x = false → (t.lane i).sticky.inexact = true)
          ∧ (¬ beyond c.anchor x cur →
              (whole t c.anchor cur x = false ∧ ¬ masked t c.anchor .inexact)
                ∨ (whole t c.anchor cur x = true ∧ 2 ^ 64 ≤ x ∧ ¬ masked t c.anchor .range) →
              t.cue slot = spent (last cur) ∧ slot ∉ t.dues ∧ (t.flag .cueDropped).set = true)

/-- What a late cue has come to in `t` (R152), at once and in a stall too (log entry 32): under DROP its slot is FREE with CUE_DROPPED; under FIRE_LATE it has fired with CUE_LATE. -/
def late (t : State) (slot : Nat) (c : Cue) (d : Int) : Prop :=
  (c.drop = true → t.cue slot = none ∧ slot ∉ t.dues ∧ (t.flag .cueDropped).set = true)
    ∧ (c.drop = false → (t.flag .cueLate).set = true ∧ (c.flagOnFire = true → (t.flag .cueFired).set = true) ∧ fired t slot c d)

/-- What a cue of the due list has come to after a move of PT that leaves its due as it is: untouched, or late (R153). -/
def judged (t : State) (slot : Nat) (c : Cue) : Prop :=
  ∀ d, c.due = some d → ((t.tb.pt : Int) ≤ d → t.cue slot = some c ∧ slot ∈ t.dues) ∧ ((d : Int) < t.tb.pt → late t slot c d)

/-- What a recomputation at the PT of `t` has made of the cue `c` in a slot, under the mapping its lane holds in `t` (R155): it has the due found, or
is late, or is dropped at an unmasked INEXACT. -/
def refound (t : State) (slot : Nat) (c : Cue) : Prop :=
  ∀ x cur, due t c.anchor c.current t.tb.pt x cur → 0 ≤ x → x < 2 ^ 64 →
    let u := { c with state := if c.state = .suspended then .waiting else c.state, current := cur, due := some x.toNat }
    (whole t c.anchor c.current x = true ∨ masked t c.anchor .inexact →
        (t.tb.pt ≤ x → t.cue slot = some u ∧ slot ∈ t.dues) ∧ (x < t.tb.pt → late t slot u x))
      ∧ (whole t c.anchor c.current x = false → ¬ masked t c.anchor .inexact →
          t.cue slot = none ∧ slot ∉ t.dues ∧ (t.flag .cueDropped).set = true)

/-- The cues of a lane, from how they stood in `s`, once they have been recomputed under the mapping the lane holds in `t` (R155). A PULSING cue
without further firings and the cues of other lanes are untouched. -/
def recomputed (s t : State) (lane : Nat) : Prop :=
  (∀ slot < 64, (∀ c, s.cue slot = some c → c.on lane = false) → t.cue slot = s.cue slot)
    ∧ (s.duesOk → ∀ slot < 64, ∀ c, s.cue slot = some c → c.on lane = true →
        (slot ∉ s.dues → c.state ≠ .suspended → t.cue slot = some c)
          ∧ (slot ∈ s.dues ∨ c.state = .suspended → (t.lane lane).rateOk → refound t slot c))

/-- A line after a cue's action (R148). -/
def driven (l : Line) (slot : Nat) : Action → Line
  | .none => l
  | .high => { l with level := true, holder := none }
  | .low => { l with level := false, holder := none }
  | .toggle => { l with level := !l.level, holder := none }
  | .pulse => { l with level := !l.idle, holder := some slot }

/-- A line after its holder's pulse has ended (R149). -/
def idled (l : Line) (slot : Nat) : Line := if l.holder = some slot then { l with level := l.idle, holder := none } else l

/-- The lines with one of them, if there is one, replaced. -/
def onLine (s : State) (j : Option Nat) (f : Line → Line) : State :=
  match j with
  | none => s
  | some j => s.setLine j (f (s.line j))

/-- The due list with a slot entered behind every cue whose due is equal to or earlier than its own (R145). -/
def enter (s : State) (slot due : Nat) : List Nat :=
  (s.dues.takeWhile fun x => decide (s.dueOf x ≤ due)) ++ slot :: s.dues.dropWhile fun x => decide (s.dueOf x ≤ due)

/-- `t` is `s`, the slot out of the due list, after the cue `c` in the slot has fired, its due being `d` (R146): a running pulse ends before
another action, the action acts on the line, and the slot holds what `fired` says. Nothing else changes but CUE_FIRED, CUE_DROPPED, and the
sticky flags of the anchor's lane with LANE_EXCEPTION. -/
def fires (s t : State) (slot : Nat) (c : Cue) (d : Int) : Prop :=
  let r := restaged c
  let ended := if c.state = .pulsing ∧ r.action ≠ .pulse then onLine s c.line fun l => idled l slot else s
  let acted := onLine ended c.line fun l => driven l slot r.action
  let flagged := if c.flagOnFire then raise .cueFired s else s
  fired t slot c d
    ∧ t = { s with
        cues := s.cues.put slot (t.cue slot), lines := acted.lines, lanes := t.lanes, attn := t.attn
        dues := match (t.cue slot).bind Cue.due with
          | some x => enter s slot x
          | none => s.dues }
    ∧ (∀ i < 16, t.lane i = { s.lane i with sticky := (t.lane i).sticky } ∧ (c.anchor.lane? ≠ some i → t.lane i = s.lane i))
    ∧ (∀ f, f ≠ .cueDropped → f ≠ .laneException → t.flag f = flagged.flag f)
    ∧ (c.left = some 1 ∨ c.anchor.lane? = none → t.lanes = s.lanes ∧ t.attn = flagged.attn)

/-- The fields of a CUE_ADD reply: the cue as the slot then holds it, or zeros where a late DROP has removed it (R144). -/
def added (s : State) (slot : Nat) (c : Option Cue) (width interval : Nat) (met : Conds) : List Fld :=
  [Fld.code slot]
    ++ (match c with
      | none => [Fld.code 0, .code 0, .pt 0, .word 0, .label zero, .sample 0]
      | some c => [.code c.state.code, bit c.due.isSome, .pt (c.due.getD 0 : Nat), .word (c.left.getD 4294967295)]
          ++ (match c.anchor with
            | .absolute _ => [Fld.label zero, .sample 0]
            | .label i _ _ => [lab (s.lane i) (c.current.map Int.toNat), .sample 0]
            | .sample _ _ => [.label zero, .sample (c.current.getD 0)]))
    ++ [.ticks width, .interval interval, bit met.invalid, bit met.range, bit met.inexact]

/-! Device reports (sections 6.4, 7.3 and 7.4). -/

/-- The newest VALID entry of a ring. -/
def newest (ring : List Obs) : Option Obs := ring.find? fun o => decide (o.tag = .valid)

/-- The oldest VALID entry of a ring. -/
def oldest (ring : List Obs) : Option Obs := ring.reverse.find? fun o => decide (o.tag = .valid)

/-- The instant `t` of a report: explicit, or the mark it names, which has left its input's FIFO in `s'` (R110, R123). -/
def instant (s s' : State) (d : Device) (kind capture pt : Nat) (t : Int) (source : Option Nat) : Prop :=
  (kind = 2 ∧ (d.input = none ∨ d.kind = .suite) ∧ pt ≤ s.tb.pt ∧ t = pt ∧ source = none ∧ s' = s)
    ∨ ∃ i k before after, d.input = some i ∧ (s.mark i).fifo = before ++ k :: after
        ∧ (kind = 0 ∧ before = [] ∨ kind = 1 ∧ k.number = capture ∧ ∀ x ∈ before, x.number ≠ capture)
        ∧ t = k.pt ∧ source = some k.number ∧ s' = s.setMark i { s.mark i with fifo := before ++ after }

/-! Lanes and steps (sections 5.3, 7.7 and 8.6). -/

/-- A lane that latches boundary `k` with a label count (R85); its next boundary is the one after. -/
def latch (l : Lane) (k : Int) (count : Nat) : Lane :=
  { l with latched := some ⟨k, l.phase + k * l.period, count, l.sound.map fun x => l.latchSample x (l.phase + k * l.period)⟩, next := some (k + 1) }

/-- The label count at which a RELEASING lane resumes: its pending label, or else its frozen label plus one (R91). -/
def resumesAt (l : Lane) (c : Nat) : Prop := l.pendingLabel = some c ∨ l.pendingLabel = none ∧ ∃ f, l.frozen = some f ∧ c = (f + 1) % l.nDay

/-- The mapping change of a lane that takes the mapping (k, c), the nearest signed value modulo N_day (R91). -/
def change (l : Lane) (k : Int) (c : Nat) (delta : Int) : Prop :=
  (∃ q : Int, delta = (c - k) - (l.map.c0 - l.map.k0) + q * l.nDay) ∧ -(l.nDay / 2 : Nat) ≤ delta ∧ delta ≤ l.nDay - 1 - (l.nDay / 2 : Nat)

/-- A lane that takes a mapping, becomes RUNNING and latches boundary `k` under it (R84, R91). -/
def begun (l : Lane) (m : Mapping) (k : Int) : Lane :=
  let r := { l with state := .running, mapping := some m, pendingLabel := none }
  latch r k (count r k)

/-- What boundary `k` has made of the lane `l`, its sticky flags apart (R84, R85, R91). -/
def boundary (l l' : Lane) (k : Int) : Prop :=
  (l.state = .running → l' = { latch l k (count l k) with sticky := l'.sticky })
    ∧ (∀ c, l.state = .held → l.frozen = some c → l' = { latch l k c with sticky := l'.sticky })
    ∧ (l.state = .waiting → l.atNext = false → l' = { begun l ⟨0, 0⟩ k with sticky := l'.sticky })
    ∧ (∀ c, l.state = .waiting → l.atNext = true → l.pendingLabel = some c → l' = { begun l ⟨k, c⟩ k with sticky := l'.sticky })
    ∧ (∀ c, l.state = .releasing → resumesAt l c → l' = { begun { l with frozen := none } ⟨k, c⟩ k with sticky := l'.sticky })

/-- An output assigned to a lane pulses at the boundary whose record the lane, in state `st` before it, has just latched (R102). -/
def pulses (st : LaneState) (r : Latched) (f : FramePulse) : Prop := if st = .held then f.cadence = 1 else r.count % f.cadence = 0

/-- A step has carried PT to `pt`, to or past the lane's next boundary (R86). -/
def passed (l : Lane) (pt : Nat) : Prop := l.state ≠ .free ∧ ∃ n, l.next = some n ∧ place l n 0 ≤ pt

/-- What a step by −e, `t` standing at the PT stepped to, has done to the marks, the observations, the lanes with their outputs, and the cues
(R86, R112, R135, R152, R153). A backward step moves the marks and the observations alone. After a forward one each lane passed has taken the
latest boundary at or before PT, in every respect as a boundary: its record, its start or release, the outputs assigned to it (R84, R85, R91,
R102), the shift of a released lane's followers (R92, R136) and the recomputation of the cues that were suspended with it (R155). The cues whose
dues were passed are late. A step that falls in a stall does the same (log entry 32). -/
def stepped (s t : State) (e : Int) : Prop :=
  t.marks = s.marks.map (fun m => { m with fifo := m.fifo.map fun q => { q with pt := q.pt - e } })
    ∧ (0 < e →
        t.devices = s.devices.map (Option.map fun d => { d with ring := d.ring.map fun o => { o with pt := o.pt - e } })
          ∧ t.lanes = s.lanes ∧ t.fps = s.fps ∧ t.cues = s.cues ∧ t.dues = s.dues ∧ t.lines = s.lines)
    ∧ (e < 0 →
        let index := fun l : Lane => ((t.tb.pt : Int) - l.phase) / l.period
        let released := fun l : Lane => passed l t.tb.pt ∧ l.state = .releasing
        let begins := fun l : Lane => passed l t.tb.pt ∧ (l.state = .waiting ∨ l.state = .releasing)
        (∀ n < 32, s.device n = none → t.device n = none)
          ∧ (∀ n < 32, ∀ d, s.device n = some d →
              let l := s.lane d.lane
              ∃ d', t.device n = some d'
                ∧ (¬ released l → d'.offsetEst = d.offsetEst ∧ d'.ring = d.ring.map fun o => { o with pt := o.pt - e })
                ∧ (∀ c, released l → resumesAt l c → 0 < l.nDay →
                    ∃ delta, change l (index l) c delta ∧ d'.offsetEst = d.offsetEst.map (fun o => o + delta * l.period)
                      ∧ d'.ring = d.ring.map fun o => { o with pt := o.pt - e, offset := o.offset + delta * l.period }))
          ∧ (∀ i < 16,
              let l := s.lane i
              (¬ passed l t.tb.pt → t.lane i = { l with sticky := (t.lane i).sticky })
                ∧ (passed l t.tb.pt → boundary l (t.lane i) (index l)) ∧ (begins l → (t.flag .laneReleased).set = true))
          ∧ (∀ j < 4, (∀ i, (s.fp j).lane = some i → ¬ passed (s.lane i) t.tb.pt) → t.fp j = s.fp j)
          ∧ (∀ j < 4, ∀ i < 16, ∀ r, (s.fp j).lane = some i → passed (s.lane i) t.tb.pt → (t.lane i).latched = some r →
              (pulses (s.lane i).state r (s.fp j) → t.fp j = { s.fp j with level := !(s.fp j).activeLow, remaining := (s.fp j).width })
                ∧ (¬ pulses (s.lane i).state r (s.fp j) → t.fp j = s.fp j))
          ∧ (s.duesOk → ∀ slot < 64, ∀ q, s.cue slot = some q →
              ((∀ i ∈ q.anchor.lane?, ¬ begins (s.lane i)) → (slot ∉ s.dues → t.cue slot = some q) ∧ (slot ∈ s.dues → judged t slot q))
                ∧ (∀ i ∈ q.anchor.lane?, begins (s.lane i) → slot ∉ s.dues →
                    (q.state ≠ .suspended → t.cue slot = some q)
                      ∧ (q.state = .suspended → (t.lane i).rateOk → refound t slot q))))

end Sys2Proof.Spec

/-! ### Power, reset and the control link (Chapter 10) -/

/-- The model's queue (log entry 5): a step carries out the command at the front, with the queue's rest; on an empty queue the part idles. -/
def Obligations.StepRunsTheFrontCommand : Prop :=
  (∀ (c : Instr) (s : State) (rest : List Instr), step { s with pending := c :: rest } = exec c { s with pending := rest })
    ∧ ∀ s : State, s.pending = [] → step s = .next s

/-- Section 10.7: power-on and the end of a low level on RESET leave the same state, every block at its power-on values with the rate code
of the straps; a recognized low level puts every block there. The command queue and the draw counter are the model's own and stay. -/
def Obligations.PowerAndResetLeavePowerOnValues : Prop :=
  ∀ (s : State) (b1 b0 : Bool),
    let code := match b1, b0 with
      | false, false => 0
      | false, true => 1
      | true, false => 2
      | true, true => 3
    let fresh := { State.reset with link := Link.reset code, draws := s.draws, pending := s.pending }
    exec (.powerOn b1 b0) s = .next fresh
      ∧ (s.resetLow = true → exec (.resetRelease b1 b0) s = .next fresh)
      ∧ (s.resetLow = false → exec (.resetRelease b1 b0) s = .next s)
      ∧ exec .resetAssert s
          = .next { State.reset with resetLow := true, link := Link.reset s.link.rate, draws := s.draws, pending := s.pending }

/-- Section 10.7: while a recognized low level on RESET lasts, no event and no request changes anything. -/
def Obligations.ResetHeldLowHoldsEveryBlock : Prop :=
  ∀ (s : State) (c : Instr), s.resetLow = true → (∀ b1 b0, c ≠ .powerOn b1 b0) → c ≠ .resetAssert → (∀ b1 b0, c ≠ .resetRelease b1 b0) →
    exec c s = .next s

/-- Section 10.3, the hunter's table, the CRC and the joining of the queue: what one byte does in each state of the hunter. Nothing but
the link changes, and LINK_OVERRUN where a good frame finds four queued. That no request is then being handled is log entry 10. -/
def Obligations.EachByteMovesTheHunter : Prop :=
  ∀ (s : State) (b : Byte), s.resetLow = false → s.link.breakWait = false →
    let moved := fun h : Hunter => Spec.line s { s.link with hunter := h, gap := 0 }
    (s.link.hunter = .hunt → exec (.rxdByte b) s = .next (moved (if b = 0xC3#8 then .length else .hunt)))
      ∧ (s.link.hunter = .length →
          exec (.rxdByte b) s = .next (moved (if 2 ≤ b.toNat ∧ b.toNat ≤ 254 then .collect b.toNat [] else .hunt)))
      ∧ (∀ len bytes, s.link.hunter = .collect len bytes → bytes.length + 1 < len →
          exec (.rxdByte b) s = .next (moved (.collect len (bytes ++ [b]))))
      ∧ (∀ len bytes, s.link.hunter = .collect len bytes → bytes.length + 1 = len →
          exec (.rxdByte b) s = .next (moved (.check len (bytes ++ [b]) none)))
      ∧ (∀ len bytes, s.link.hunter = .check len bytes none → exec (.rxdByte b) s = .next (moved (.check len bytes (some b))))
      ∧ (∀ len bytes high, s.link.hunter = .check len bytes (some high) →
          (crcBytes (BitVec.ofNat 8 len :: bytes) ≠ [high, b] → exec (.rxdByte b) s = .next (moved .hunt))
            ∧ (crcBytes (BitVec.ofNat 8 len :: bytes) = [high, b] →
                let fr : Frame := ⟨bytes.getD 0 0, bytes.getD 1 0, bytes.drop 2⟩
                (s.link.queue.length < 4 →
                    exec (.rxdByte b) s = .next (Spec.line s { s.link with hunter := .hunt, gap := 0, queue := s.link.queue ++ [fr] }))
                  ∧ (4 ≤ s.link.queue.length → exec (.rxdByte b) s = .next (raise .linkOverrun (moved .hunt)))))

/-- Sections 10.3, 10.4 and 10.8: every frame that section 10.8 lets a host write, sent byte by byte to a hunter in HUNT, is read back
whole: it joins the queue, or where four are queued it is discarded with LINK_OVERRUN. -/
def Obligations.EveryFrameSentIsRead : Prop :=
  ∀ (s : State) (fr : Frame), s.resetLow = false → s.link.breakWait = false → s.link.hunter = .hunt → fr.body.length ≤ 252 →
    Spec.feed fr.wire s
      = .next (if s.link.queue.length < 4 then Spec.line s { s.link with gap := 0, queue := s.link.queue ++ [fr] }
          else raise .linkOverrun (Spec.line s { s.link with gap := 0 }))

/-- Sections 10.5 and 10.8: decode of encode. A request whose fields lie in their classes, laid out as section 10.8 lays them out, is judged
to be that request, with every operand at its value; and its body fits a frame. A LANE_CONVERT carries the operands of its direction. -/
def Obligations.RequestFramesDecodeToTheirRequests : Prop :=
  ∀ (i : Instr) (tag : Byte) (fr : Frame), i.WellFormed = true → frameForm i = true → requestFrame i tag = some fr →
    fr.tag = tag ∧ fr.body.length ≤ 252 ∧ judge fr = .command i

/-- Section 10.3: a framing error and a break, the return of RXD to high, and the inter-byte timeout of each rate. -/
def Obligations.FramesAreAbandonedOnErrorsAndGaps : Prop :=
  ∀ (s : State), s.resetLow = false →
    (∀ brk : Bool, s.link.breakWait = false →
        exec (.framingError brk) s = .next (Spec.line s { s.link with hunter := .hunt, gap := 0, breakWait := brk }))
      ∧ (∀ b : Byte, s.link.breakWait = true → exec (.rxdByte b) s = .next s)
      ∧ (s.link.breakWait = true → exec .rxdReturnsHigh s = .next (Spec.line s { s.link with breakWait := false }))
      ∧ (∀ gap timeout : Nat, (s.link.rate, timeout) ∈ [(0, 231), (1, 922), (2, 1844), (3, 4000)] → s.link.hunter ≠ .hunt →
          exec (.interByteTimeout gap) s
            = .next (if timeout < gap then Spec.line s { s.link with hunter := .hunt, gap := 0 } else Spec.line s { s.link with gap := gap }))
      ∧ (∀ gap : Nat, s.link.hunter = .hunt → exec (.interByteTimeout gap) s = .next s)

/-- Section 10.5: the oldest frame is taken, judged and handed to its owning block, which does what the request does; the reply carries the
request kind with 0x80 added, the tag, the status and the result fields, and begins at once or waits. A kind that is not listed and a body
of the wrong length are answered with their status alone and change nothing else. Nothing is taken from an empty queue, while a reply waits to
begin transmission, or while a RESTART is due, which empties the queue first (R182). -/
def Obligations.RequestsAreTakenAndAnswered : Prop :=
  ∀ s : State, s.resetLow = false →
    (s.link.queue = [] ∨ s.link.waiting.isSome = true ∨ s.link.restart = .due → exec .requestTake s = .next s)
    ∧ ∀ (fr : Frame) (rest : List Frame), s.link.queue = fr :: rest → s.link.waiting = none → s.link.restart ≠ .due →
    let s' := { s with link := { s.link with queue := rest, handling := some fr } }
    let send := fun (t : State) (r : Reply) =>
      { t with link := if t.link.sending = none then { t.link with sending := some r } else { t.link with waiting := some r } }
    (∀ i : Instr, judge fr = .command i →
        ∃ t a, exec i s' = .next t ∧ t.answer = some a
          ∧ exec .requestTake s
              = .next (send t ⟨fr.kind + 0x80#8, fr.tag, BitVec.ofNat 8 a.status.code :: a.fields.flatMap Fld.bytes⟩))
      ∧ (judge fr = .malformed →
          exec .requestTake s = .next (send (Spec.no s' .malformed) ⟨fr.kind + 0x80#8, fr.tag, [0x01#8]⟩))
      ∧ (judge fr = .unknownKind →
          exec .requestTake s
            = .next (send (Spec.no s' .unknownKind) ⟨if fr.kind.toNat < 0x80 then fr.kind + 0x80#8 else fr.kind, fr.tag, [0x02#8]⟩))

/-- Sections 10.5 and 10.7: when the reply in transmission has sent its last byte the waiting one begins, and with it a RESTART taken
behind it is due. RESTART is taken with OK and no result fields, and acts when its reply begins transmission: the blocks of the table take
their RESTART values, the queue is emptied, and everything else stays. That a RESTART carried out while an earlier one is due leaves it due is
the model's choice (log entry 31). -/
def Obligations.RestartActsWhenItsReplyBegins : Prop :=
  ∀ s : State, s.resetLow = false →
    (s.link.sending.isSome = true →
        exec .replySent s
          = .next (Spec.line s { s.link with
              sending := s.link.waiting, waiting := none, restart := if s.link.restart = .taken then .due else s.link.restart }))
      ∧ exec .restart s
        = .next (Spec.ok { s with link := { s.link with
            restart := if s.link.sending = none ∨ s.link.restart = .due then .due else .taken } } [])
      ∧ (s.link.restart = .due →
          exec .restartEffect s
            = .next { s with
                lanes := s.lanes.map fun l => { Lane.reset with masks := l.masks, rounding := l.rounding, sticky := l.sticky }
                fps := .fill 4 .reset, marks := .fill 8 .reset, devices := .fill 32 none, cues := .fill 64 none, dues := []
                lines := .fill 8 .reset, attn := .fill 24 .reset, link := { s.link with queue := [], restart := .idle } })

/-- R179 and R180: what IDENTIFY and STATUS carry, and that they change nothing but the answer. -/
def Obligations.IdentifyAndStatusReplies : Prop :=
  ∀ s : State, s.resetLow = false →
    exec .identify s = .next (Spec.ok s [.short 0x2416, .code 1, .code s.link.rate])
      ∧ exec .status s
          = .next (Spec.ok s
              [.code (if s.tb.set then 1 else 0), .code s.tb.state.code, .pt s.tb.pt,
                .code (if s.src.selection = .xo then 0 else 1), .code (if s.src.selected.state = .running then 0 else 1),
                .code s.ref.state.code, .code (s.ref.house.getD 0),
                .code (s.lanes.list.filter fun l => l.state ≠ .free).length,
                .code (s.lanes.list.filter fun l => l.state = .running).length,
                .code (s.devices.list.filter fun d => d.isSome).length,
                .code (s.devices.list.filter fun d =>
                  d.any fun x => x.state = .outOfTolerance ∨ x.state = .rejamPending ∨ x.state = .lost).length,
                .code (s.cues.list.filter fun c => c.isSome).length, .code s.dues.length,
                .code (Spec.flags fun n => (s.flagNo n).set).length, Spec.attn s, .code s.link.queue.length])

/-- R39, R56 and R78: the queries of the clock sources, the Reference Monitor and the Timebase, field by field; they change nothing but the
answer. That REF_QUERY carries the expected PT as a signed PT is the model's choice (log entry 37). -/
def Obligations.ClockQueriesReportWhatIsHeld : Prop :=
  ∀ s : State, s.resetLow = false →
    let source := fun r : SourceRec =>
      [Fld.code (if r.enable then 1 else 0), .code r.state.code, .code r.wait, .word (if r.state = .starting then r.progress else 0),
        .ppb r.cal]
    exec .sourceQuery s
        = .next (Spec.ok s
            ([.code (if s.src.selection = .xo then 0 else 1), .code (if s.src.selected.state = .running then 0 else 1)]
              ++ source s.src.xo ++ source s.src.ext ++ [.code s.src.missing]))
      ∧ exec .refQuery s
          = .next (Spec.ok s
              [.code s.ref.state.code, .code (s.ref.house.getD 0), .ticks (ratePeriod (s.ref.house.getD 0)),
                .code (s.ref.candidate.getD 0), .code s.ref.qualify, .code s.ref.misses, .ticks s.ref.lastPeriod, .ticks s.ref.lastError,
                .ptSigned (s.ref.lastAccepted.getD 0), .ptSigned (s.ref.expectedPt.getD 0),
                .code (if s.ref.falling then 1 else 0), .code s.ref.filter, .ticks s.ref.delay, .code s.ref.expected])
      ∧ exec .tbQuery s
          = .next (Spec.ok s
              [.code s.tb.state.code, .code (if s.tb.enable then 1 else 0), .code (if s.tb.refPresent then 1 else 0),
                .code (if s.tb.entry then 1 else 0), .ppb s.tb.i, .ppb s.tb.p, .ppb s.tb.trim, .code s.tb.inWin, .code s.tb.outWin,
                .ticks (if s.tb.state = .holdover then (s.tb.limit * 54000000 : Nat) - (s.tb.elapsed : Int) else 0),
                .ticks s.tb.window, .ticks s.tb.threshold, .word s.tb.limit])

/-- Sections 4.9, 5.6, 6.5, 7.8 and 8.10: the other reads, field by field; they change nothing but the answer, and are refused with BAD_VALUE
only for a number that does not exist, or with NO_SUCH for a device that is not registered. A presence indicator standing before what it speaks
of is log entry 9, the codes of the sticky flags, of a latched record's exactness and of a valid estimate log entry 36, the zeros of a REPORT device's line and width log entry 17, and those
of a FREE slot log entry 18. -/
def Obligations.ReadsChangeNothing : Prop :=
  ∀ s : State, s.resetLow = false →
    exec .timeGet s = .next (Spec.ok s [.pt s.tb.pt, .code (if s.tb.set then 1 else 0), .code s.tb.state.code])
      ∧ (∀ lane, 15 < lane → exec (.laneQuery lane) s = .next (Spec.no s .badValue))
      ∧ (∀ lane < 16,
          let l := s.lane lane
          exec (.laneQuery lane) s
            = .next (Spec.ok s
                ([.code l.state.code, .code l.code, .ticks l.period, .short l.base, Spec.bit l.df, .ticks l.phase]
                  ++ (match l.sound with
                    | some x => [Spec.bit true, Spec.bit x.rate96, .code x.pull]
                    | none => [Spec.bit false, .code 0, .code 0])
                  ++ [Spec.bit l.atNext]
                  ++ (match l.mapping with
                    | some m => [Spec.bit true, .index m.k0, .word m.c0]
                    | none => [Spec.bit false, .index 0, .word 0])
                  ++ [.code l.rounding.code, Spec.bit !l.masks.invalid, Spec.bit !l.masks.range, Spec.bit !l.masks.inexact,
                    Spec.bit l.sticky.invalid, Spec.bit l.sticky.range, Spec.bit l.sticky.inexact,
                    Spec.bit l.frozen.isSome, Spec.lab l l.frozen, Spec.bit l.pendingLabel.isSome, Spec.lab l l.pendingLabel]
                  ++ (match l.latched with
                    | some r => [Spec.bit true, .index r.index, .pt r.pt, Spec.lab l (some r.count)]
                        ++ (match r.sample with
                          | some (p, exact) => [.sample p, Spec.bit exact]
                          | none => [.sample 0, .code 0])
                    | none => [Spec.bit false, .index 0, .pt 0, Spec.lab l none, .sample 0, .code 0])
                  ++ [Spec.bit l.next.isSome, .index (l.next.getD 0)])))
      ∧ (∀ input, 7 < input → exec (.markQuery input) s = .next (Spec.no s .badValue))
      ∧ (∀ input < 8,
          let m := s.mark input
          exec (.markQuery input) s
            = .next (Spec.ok s
                ([Spec.bit m.enable, .code m.state.code, .code m.edge.code, .code m.filter, .word (m.holdoff / 54000), .word (m.window / 54000),
                    .short m.decimation, .short m.counter, .ticks m.remaining, .short m.nextNumber, .code m.fifo.length]
                  ++ (m.fifo.map fun k => [Fld.short k.number, .ptSigned k.pt, .ticks (k.pt + m.window - s.tb.pt)]).flatten)))
      ∧ (∀ n < 32, s.device n = none →
          exec (.deviceQuery n) s = .next (Spec.no s .noSuch) ∧ exec (.deviceRing n) s = .next (Spec.no s .noSuch))
      ∧ (∀ n < 32, ∀ d, s.device n = some d →
          let l := s.lane d.lane
          exec (.deviceQuery n) s
              = .next (Spec.ok s
                  ([.code d.kind.code, .code d.lane, .code (d.input.getD 255), Spec.bit d.midFrame, .ticks d.outlierLimit, .ticks d.offsetTol,
                      .ppb d.driftTol, .word d.span, .word d.silence]
                    ++ (match d.rejam with
                      | some (line, w) => [Fld.code 1, .code line, .ticks w]
                      | none => [.code 0, .code 0, .ticks 0])
                    ++ [.code d.state.code, Spec.bit d.offsetEst.isSome, .ticks (d.offsetEst.getD 0), Spec.bit d.driftEst.isSome,
                      .ppb (d.driftEst.getD 0), .code d.outliers, Spec.bit d.silenceLeft.isSome, .ticks (d.silenceLeft.getD 0),
                      .code (d.cue.getD 255), .code d.ring.length]))
            ∧ exec (.deviceRing n) s
              = .next (Spec.ok s
                  ([.code d.top, .code d.ring.length]
                    ++ (d.ring.zipIdx.map fun (o, j) =>
                      [Fld.code ((d.top + j) % 8), .ptSigned o.pt, Spec.lab l (some o.count), .ticks o.offset, Spec.bit o.residual.isSome,
                          .ticks (o.residual.getD 0), .code o.tag.code]
                        ++ (match o.source with
                          | some number => [.code 0, .short number]
                          | none => [.code 1, .short 0])).flatten)))
      ∧ (∀ slot, 63 < slot → exec (.cueQuery slot) s = .next (Spec.no s .badValue) ∧ exec (.cueList slot) s = .next (Spec.no s .badValue))
      ∧ (∀ slot < 64,
          let staged := fun b : Option Staged =>
            match b with
            | some b => [Spec.bit true, .ticks b.width, .interval b.interval, .code b.action.code]
            | none => [Spec.bit false, .ticks 0, .interval 0, .code 0]
          let zeros : List Fld := [.code 0, .label Spec.zero, .sample 0]
          (s.cue slot = none →
              exec (.cueQuery slot) s
                = .next (Spec.ok s
                    ([.code 0, .code 0, .code 0, .pt 0, .code 0, .label Spec.zero, .ticks 0, .sample 0] ++ zeros
                      ++ [.code 0, .ticks 0, .code 0, .code 0, .short 0, .word 0, .interval 0, .code 0] ++ staged none
                      ++ [.code 0, .pt 0, .ticks 0, .code 0])))
            ∧ ∀ c, s.cue slot = some c →
                let anchor : List Fld :=
                  match c.anchor with
                  | .absolute pt => [.code 0, .pt pt, .code 0, .label Spec.zero, .ticks 0, .sample 0]
                  | .label i p o => [.code 1, .pt 0, .code i, .label p, .ticks o, .sample 0]
                  | .sample i p => [.code 2, .pt 0, .code i, .label Spec.zero, .ticks 0, .sample p]
                let current : List Fld :=
                  match c.anchor, c.current with
                  | .label i _ _, some v => [Spec.bit true, Spec.lab (s.lane i) (some v.toNat), .sample 0]
                  | .sample _ _, some v => [Spec.bit true, .label Spec.zero, .sample v]
                  | .absolute _, some _ => [Spec.bit true, .label Spec.zero, .sample 0]
                  | _, none => zeros
                let place := if slot ∈ s.dues then s.dues.idxOf slot else 255
                exec (.cueQuery slot) s
                  = .next (Spec.ok s
                      ([.code c.state.code, .code (c.owner.getD 255)] ++ anchor ++ current
                        ++ [.code c.action.code, .ticks c.width, .code (c.line.getD 255), Spec.bit c.flagOnFire, .short c.repeatCount,
                          .word (c.left.getD 4294967295), .interval c.interval, Spec.bit c.drop]
                        ++ staged c.staged ++ [Spec.bit c.due.isSome, .pt (c.due.getD 0 : Nat), .ticks c.remaining, .code place])))
      ∧ (∀ start < 64,
          let entries := (s.dues.drop start).take 24
          exec (.cueList start) s
            = .next (Spec.ok s
                ([.code s.dues.length, .code start, .code entries.length] ++ (entries.map fun i => [.code i, .pt (s.dueOf i)]).flatten)))
      ∧ (∀ j, 7 < j → exec (.outputQuery j) s = .next (Spec.no s .badValue))
      ∧ (∀ j < 8,
          exec (.outputQuery j) s
            = .next (Spec.ok s
                [.code (if (s.line j).idle then 1 else 0), .code (if (s.line j).level then 1 else 0), .code ((s.line j).holder.getD 255),
                  .ticks (match (s.line j).holder.bind s.cue with
                    | some c => c.remaining
                    | none => 0)]))

/-- Section 10.5: no reply exceeds L = 254, in any state that keeps the part's laws: the status and the result fields of a request's answer
are at most 252 bytes. -/
def Obligations.NoReplyExceedsItsFrame : Prop :=
  ∀ (s t : State) (i : Instr) (a : Answer), s.lawful → s.resetLow = false → (requestFields i).isSome = true → exec i s = .next t →
    t.answer = some a → (a.fields.flatMap Fld.bytes).length + 1 ≤ 252

/-! ### The attention flags (Chapter 9) -/

/-- R163: a raised flag is set and not seen, with its enable as it was; every other flag, and everything else, is untouched. -/
def Obligations.RaisingSetsAndUnmarks : Prop :=
  ∀ (s : State) (f : Flag),
    (raise f s).flag f = { s.flag f with set := true, seen := false }
      ∧ (∀ g, g ≠ f → (raise f s).flag g = s.flag g)
      ∧ raise f s = { s with attn := (raise f s).attn }

/-- R165: FLAGS lists the set flags, gives each its seen mark and changes nothing else but the answer. -/
def Obligations.FlagsListsAndMarks : Prop :=
  ∀ s : State, s.resetLow = false →
    ∃ t, exec .flags s = .next t
      ∧ t = { s with attn := t.attn, answer := t.answer }
      ∧ (∀ n, 1 ≤ n → n ≤ 24 → t.flagNo n = { s.flagNo n with seen := (s.flagNo n).seen || (s.flagNo n).set })
      ∧ t.answer = some ⟨.ok, Spec.list (Spec.flags fun n => (s.flagNo n).set) ++ Spec.list (Spec.flags fun n => (s.flagNo n).enable)
          ++ [Spec.attn s]⟩

/-- R166, with the refusal of section 9.3: ACK clears each listed flag that is set and seen, and no other; the reply lists those cleared
and those that stay set because they were not seen. -/
def Obligations.AckClearsWhatWasSeen : Prop :=
  ∀ (s : State) (l : List Nat), s.resetLow = false →
    (¬ (l.length ≤ 24 ∧ ∀ n ∈ l, 1 ≤ n ∧ n ≤ 24) → exec (.ack l) s = .next (Spec.no s .badValue))
      ∧ (l.length ≤ 24 → (∀ n ∈ l, 1 ≤ n ∧ n ≤ 24) →
          ∃ t, exec (.ack l) s = .next t
            ∧ t = { s with attn := t.attn, answer := t.answer }
            ∧ (∀ n, 1 ≤ n → n ≤ 24 → t.flagNo n
                = if n ∈ l ∧ (s.flagNo n).set = true ∧ (s.flagNo n).seen = true then { s.flagNo n with set := false, seen := false }
                  else s.flagNo n)
            ∧ t.answer = some ⟨.ok, Spec.list (Spec.flags fun n => l.contains n && (s.flagNo n).set && (s.flagNo n).seen)
                ++ Spec.list (Spec.flags fun n => l.contains n && (s.flagNo n).set && !(s.flagNo n).seen) ++ [Spec.attn t]⟩)

/-- R167, with the refusal of section 9.3: ATTN_ENABLE enables exactly the flags listed, and touches neither set nor seen. -/
def Obligations.AttnEnableWritesTheEnables : Prop :=
  ∀ (s : State) (l : List Nat), s.resetLow = false →
    (¬ (l.length ≤ 24 ∧ ∀ n ∈ l, 1 ≤ n ∧ n ≤ 24) → exec (.attnEnable l) s = .next (Spec.no s .badValue))
      ∧ (l.length ≤ 24 → (∀ n ∈ l, 1 ≤ n ∧ n ≤ 24) →
          ∃ t, exec (.attnEnable l) s = .next t
            ∧ t = { s with attn := t.attn, answer := t.answer }
            ∧ (∀ n, 1 ≤ n → n ≤ 24 → t.flagNo n = { s.flagNo n with enable := decide (n ∈ l) })
            ∧ t.answer = some ⟨.ok, Spec.list (Spec.flags fun n => l.contains n) ++ Spec.list (Spec.flags fun n => (s.flagNo n).set)
                ++ [Spec.attn t]⟩)

/-! ### Clock sources (Chapter 2) -/

namespace Sys2Proof.Spec

/-- The Timebase after a source change hands it a calibration trim (the table of R34). -/
def sourceChange (t : Timebase) (cal : Int) : Timebase :=
  match t.state with
  | .freerun | .holdover => { t with i := cal, p := 0, trim := cal }
  | .locking | .locked =>
    { t with state := .locking, i := cal, p := 0, trim := trim cal, entry := true, inWin := 0, outWin := 0, elapsed := 0 }

/-- The source of a code. -/
def source (n : Nat) : Source := if n = 0 then .xo else .ext

/-- Both records of the sources. -/
def sources (s : State) (xo ext : SourceRec) : State := { s with src := { s.src with xo := xo, ext := ext } }

end Sys2Proof.Spec

/-- R31 and R32 with the refusals of section 2.4: SOURCE_CONFIG's table for both sources, and that a refused request changes nothing. That BAD_VALUE comes before IN_USE where a request meets both is the model's choice (log entry 38). -/
def Obligations.SourceConfigWritesEnableAndWait : Prop :=
  ∀ (s : State) (n en wait : Nat), s.resetLow = false →
    (1 < n ∨ 1 < en ∨ 3 < wait → exec (.sourceConfig n en wait) s = .next (Spec.no s .badValue))
      ∧ (n ≤ 1 → en ≤ 1 → wait ≤ 3 →
          let r := s.src.of (Spec.source n)
          (en = 0 → s.src.selection = Spec.source n → exec (.sourceConfig n en wait) s = .next (Spec.no s .inUse))
            ∧ (en = 1 ∨ s.src.selection ≠ Spec.source n →
                let r' : SourceRec :=
                  if en = 0 then { r with enable := false, state := .off, progress := 0, wait := wait }
                  else if r.state = .off then { r with enable := true, state := .starting, progress := 0, wait := wait }
                  else if r.state = .starting ∧ wait ≠ r.wait then { r with wait := wait, progress := 0 }
                  else { r with wait := wait }
                let src := if n = 0 then { s.src with xo := r' }
                  else { s.src with ext := r', missing := if en = 0 then 0 else s.src.missing }
                exec (.sourceConfig n en wait) s
                  = .next (Spec.ok { s with src := src } [.code n, .code (if r'.enable then 1 else 0), .code wait, .code r'.state.code])))

/-- R33 and R34: SOURCE_SELECT by the state of the named source, and what a source change does to the loop and the discipline state. -/
def Obligations.SourceSelectChangesTheSource : Prop :=
  ∀ (s : State) (n : Nat), s.resetLow = false →
    (1 < n → exec (.sourceSelect n) s = .next (Spec.no s .badValue))
      ∧ (n ≤ 1 →
          let r := s.src.of (Spec.source n)
          (s.src.selection = Spec.source n →
              exec (.sourceSelect n) s = .next (Spec.ok s [.code n, .code (if r.state = .running then 0 else 1)]))
            ∧ (s.src.selection ≠ Spec.source n → r.state = .running →
                exec (.sourceSelect n) s
                  = .next (Spec.ok { s with src := { s.src with selection := Spec.source n }, tb := Spec.sourceChange s.tb r.cal }
                      [.code n, .code 0]))
            ∧ (s.src.selection ≠ Spec.source n → r.state ≠ .running → exec (.sourceSelect n) s = .next (Spec.no s .notReady)))

/-- Section 2.5 and R74: TRIM_CAL stores the clamped trim, and in FREERUN on the selected source sets i, p and the applied trim. -/
def Obligations.TrimCalStoresTheClampedTrim : Prop :=
  ∀ (s : State) (n : Nat) (v : Int), s.resetLow = false →
    (1 < n → exec (.trimCal n v) s = .next (Spec.no s .badValue))
      ∧ (n ≤ 1 →
          let src := if n = 0 then { s.src with xo := { s.src.xo with cal := Spec.trim v } }
            else { s.src with ext := { s.src.ext with cal := Spec.trim v } }
          let tb := if s.src.selection = Spec.source n ∧ s.tb.state = .freerun then
              { s.tb with i := Spec.trim v, p := 0, trim := Spec.trim v }
            else s.tb
          exec (.trimCal n v) s = .next (Spec.ok { s with src := src, tb := tb } [.code n, .ppb (Spec.trim v)]))

/-- Section 2.2: a cycle of a STARTING source adds one to its wait progress and touches nothing else but EXT's missing-cycle count; at the
count of the wait code the source becomes RUNNING with SOURCE_READY. -/
def Obligations.StabilizationWaitEndsInRunning : Prop :=
  ∀ s : State, s.resetLow = false →
    (s.src.xo.state = .starting →
        exec (.sourceCycle .xo) s = .next (Spec.sources s { s.src.xo with progress := s.src.xo.progress + 1 } s.src.ext))
      ∧ (s.src.ext.state = .starting →
          exec (.sourceCycle .ext) s
            = .next { s with src := { s.src with ext := { s.src.ext with progress := s.src.ext.progress + 1 }, missing := 0 } })
      ∧ (∀ wait cycles : Nat, (wait, cycles) ∈ [(0, 270000), (1, 540000), (2, 1080000), (3, 2160000)] →
          s.src.xo.state = .starting → s.src.xo.wait = wait → cycles ≤ s.src.xo.progress →
          exec (.startingToRunning .xo) s
            = .next (raise .sourceReady (Spec.sources s { s.src.xo with state := .running, progress := 0 } s.src.ext)))
      ∧ (∀ wait cycles : Nat, (wait, cycles) ∈ [(0, 50000), (1, 100000), (2, 200000), (3, 400000)] →
          s.src.ext.state = .starting → s.src.ext.wait = wait → cycles ≤ s.src.ext.progress →
          exec (.startingToRunning .ext) s
            = .next (raise .sourceReady (Spec.sources s s.src.xo { s.src.ext with state := .running, progress := 0 })))

/-- Sections 2.3, 4.2 and R59: a cycle of the selected RUNNING source adds 54,000,000 / f × (1 + A / 10^9) ticks exactly: PT takes the whole
ticks and the fraction keeps the rest, with nothing lost; every duration measured in PT falls by the ticks counted, the holdover elapsed
rises by them, and nothing else moves. -/
def Obligations.CyclesCountExactTicks : Prop :=
  ∀ (s : State) (which : Source), s.resetLow = false → s.src.selection = which → (s.src.of which).state = .running →
    -1000000000 ≤ s.tb.trim →
    let amount : Int := (match which with | .xo => 10 | .ext => 54) * (1000000000 + s.tb.trim)
    (s.tb.pt : Int) * 10000000000 + s.tb.frac + amount < 2 ^ 64 * 10000000000 →
    ∃ n frac : Nat,
      (n : Int) * 10000000000 + frac = s.tb.frac + amount ∧ frac < 10000000000
        ∧ exec (.sourceCycle which) s
            = .next { s with
                src := if which = .ext then { s.src with missing := 0 } else s.src
                tb := { s.tb with
                  pt := s.tb.pt + n, frac := frac, elapsed := if s.tb.state = .holdover then s.tb.elapsed + n else s.tb.elapsed }
                fps := s.fps.map fun f => { f with remaining := f.remaining - n }
                marks := s.marks.map fun m => { m with remaining := m.remaining - n }
                devices := s.devices.map (Option.map fun d => { d with silenceLeft := d.silenceLeft.map fun k => k - n })
                cues := s.cues.map (Option.map fun c => { c with remaining := c.remaining - n }) }

/-- Section 2.3: a missing EXT cycle, the loss of activity on an EXT that is not selected, and the return of activity; a cycle of a stopped
source does nothing. A cycle of a RUNNING source that is not selected moves neither PT nor any duration: XO's changes nothing, and EXT's returns
the missing-cycle count to 0. That a cycle of EXT in FAILED is the edge of R30 and starts it again is the model's choice (log entry 11). -/
def Obligations.ExtActivityIsWatched : Prop :=
  ∀ s : State, s.resetLow = false →
    (s.src.ext.enable = true →
        exec .extMissingCycle s
          = .next { s with src := { s.src with
              missing := s.src.missing + 1
              ext := if s.src.ext.state = .starting then { s.src.ext with progress := 0 } else s.src.ext } })
      ∧ (20 ≤ s.src.missing → (s.src.ext.state = .starting ∨ s.src.ext.state = .running) → s.src.selection = .xo →
          exec .extActivityLoss s
            = .next (raise .sourceFailed (Spec.sources s s.src.xo { s.src.ext with state := .failed, progress := 0 })))
      ∧ (s.src.ext.state = .failed →
          exec .extActivityReturn s
            = .next { s with src := { s.src with ext := { s.src.ext with state := .starting, progress := 0 }, missing := 0 } })
      ∧ (s.src.ext.state = .failed →
          exec (.sourceCycle .ext) s
            = .next { s with src := { s.src with ext := { s.src.ext with state := .starting, progress := 0 }, missing := 0 } })
      ∧ (s.src.ext.state = .running → s.src.selection = .xo →
          exec (.sourceCycle .ext) s = .next { s with src := { s.src with missing := 0 } })
      ∧ (s.src.xo.state = .running → s.src.selection = .ext → exec (.sourceCycle .xo) s = .next s)
      ∧ (s.src.ext.state = .off → exec (.sourceCycle .ext) s = .next s)
      ∧ (s.src.xo.state = .off → exec (.sourceCycle .xo) s = .next s)

/-- R36 and R37: when the selected EXT loses activity, XO is selected at the same event; with XO not RUNNING, PT_STALL is raised too, and a
stopped XO is started with its own wait code. -/
def Obligations.FallbackSelectsXo : Prop :=
  ∀ s : State, s.resetLow = false → 20 ≤ s.src.missing → (s.src.ext.state = .starting ∨ s.src.ext.state = .running) →
    s.src.selection = .ext →
    let xo := if s.src.xo.state = .off then { s.src.xo with enable := true, state := .starting, progress := 0 } else s.src.xo
    let flagged := raise .sourceFallback (raise .sourceFailed s)
    exec .extActivityLoss s
      = .next { s with
          src := { s.src with xo := xo, ext := { s.src.ext with state := .failed, progress := 0 }, selection := .xo }
          tb := Spec.sourceChange s.tb s.src.xo.cal
          attn := if s.src.xo.state = .running then flagged.attn else (raise .ptStall flagged).attn }

/-! ### House reference (Chapter 3) -/

namespace Sys2Proof.Spec

/-- A level change on REF_IN that is an edge (R41, R43): of the polarity, held for its filter's width, not the reversal of one that was not, not
abandoned, not begun in a stall. -/
def edge (r : RefMon) (c : LevelChange) : Prop :=
  c.rise = !r.falling ∧ c.abandoned = false ∧ c.reversal = false ∧ c.stalled = false
    ∧ ∃ width, ((c.oldFilter.getD r.filter), width) ∈ [(0, 0), (1, 1000), (2, 4000), (3, 16000)] ∧ width ≤ c.heldNs

/-- The adjusted PT of an edge: its capture PT plus the reference delay (R41, R42). -/
def adjusted (s : State) (c : LevelChange) : Int := s.tb.pt - c.age + s.ref.delay

/-- A measured period fits a house-capable code (R45). -/
def fits (t : Int) (k : Nat) : Prop := k ∈ houseCodes ∧ |t - ratePeriod k| * 1000000 ≤ 150 * ratePeriod k

/-- An error lies in (−P/2, +P/2] and is the distance of `adj` from a whole multiple of P (R52). -/
def phase (adj e : Int) (period : Nat) : Prop := (∃ m : Int, adj = m * period + e) ∧ -(period : Int) < 2 * e ∧ 2 * e ≤ period

/-- The monitor after it has accepted an edge (R49, R52). -/
def accepted (r : RefMon) (adj e : Int) (period : Nat) : RefMon :=
  { r with
    lastPeriod := match r.lastAccepted with
      | some before => if r.misses = 0 then adj - before else r.lastPeriod
      | none => r.lastPeriod
    lastAccepted := some adj, expectedPt := some (adj + period), misses := 0, lastError := e }

end Sys2Proof.Spec

/-- Sections 3.2 and 3.3, under AUTO and under a fixed rate: the first edge, and what each measured period does to the candidate, the qualify
count and the mismatch marker while the count stays below 8. A level change of the other polarity, one held for less than the filter's width,
the reversal of such a one, and one abandoned or begun in a stall change nothing. The facts of the filter's judgement ride on the command (log
entry 6). -/
def Obligations.PeriodsQualifyTheRate : Prop :=
  ∀ (s : State) (c : LevelChange), s.resetLow = false →
    (c.rise = s.ref.falling ∨ c.reversal = true ∨ c.abandoned = true ∨ c.stalled = true
        ∨ (∃ width, ((c.oldFilter.getD s.ref.filter), width) ∈ [(0, 0), (1, 1000), (2, 4000), (3, 16000)] ∧ c.heldNs < width) →
      exec (.refEdge c) s = .next s)
    ∧ (Spec.edge s.ref c →
      let adj := Spec.adjusted s c
      (s.ref.state = .absent →
          exec (.refEdge c) s
            = .next { s with ref := { s.ref with state := .qualifying, prev := some adj, candidate := none, qualify := 0, mismatch := false } })
        ∧ (s.ref.state = .qualifying → s.ref.prev = none → exec (.refEdge c) s = .next { s with ref := { s.ref with prev := some adj } })
        ∧ (∀ before, s.ref.state = .qualifying → s.ref.prev = some before →
            let r := { s.ref with lastPeriod := adj - before, prev := some adj }
            ((∀ k, ¬ Spec.fits (adj - before) k) →
                exec (.refEdge c) s = .next { s with ref := { r with candidate := none, qualify := 0 } })
              ∧ (∀ k, Spec.fits (adj - before) k → (s.ref.expected = 0 ∨ s.ref.expected = k) → s.ref.candidate = some k →
                  s.ref.qualify + 1 < 8 → exec (.refEdge c) s = .next { s with ref := { r with qualify := s.ref.qualify + 1 } })
              ∧ (∀ k, Spec.fits (adj - before) k → (s.ref.expected = 0 ∨ s.ref.expected = k) → s.ref.candidate ≠ some k →
                  exec (.refEdge c) s = .next { s with ref := { r with candidate := some k, qualify := 0 } })
              ∧ (∀ k, Spec.fits (adj - before) k → s.ref.expected ≠ 0 → s.ref.expected ≠ k →
                  let t := { s with ref := { r with candidate := some k, qualify := 0, mismatch := true } }
                  exec (.refEdge c) s = .next (if s.ref.mismatch then t else raise .refMismatch t))))

/-- R48 and sections 4.4 to 4.6: the period that brings the count to 8 completes qualification: REF_QUALIFIED is raised and the Timebase is
told. In FREERUN with the discipline disabled it takes no further action. In FREERUN enabled, from the calibration trim, and in HOLDOVER, from
the integral term held, it enters LOCKING and takes the edge as its entry edge: within the step threshold it updates the loop and counts if
in-window; beyond it PT is stepped and the edge counts as an error of 0. `adj` is the adjusted PT of the edge. -/
def Obligations.EighthPeriodMakesTheReferencePresent : Prop :=
  ∀ (s : State) (c : LevelChange) (before : Int) (k : Nat), s.resetLow = false → Spec.edge s.ref c → s.ref.state = .qualifying →
    s.ref.prev = some before → s.ref.candidate = some k → s.ref.qualify = 7 → (s.ref.expected = 0 ∨ s.ref.expected = k) →
    let adj := Spec.adjusted s c
    Spec.fits (adj - before) k →
    ∃ e, Spec.phase adj e (ratePeriod k) ∧
      let ref : RefMon := { s.ref with
        state := .present, house := some k, lastPeriod := adj - before, lastAccepted := some adj
        expectedPt := some (adj + ratePeriod k), misses := 0, lastError := e, prev := none, qualify := 8 }
      let held := if s.tb.state = .holdover then s.tb.i else s.selectedCal
      let locking := fun (e : Int) (inWin : Nat) =>
        let p := -((e * 1000000000).tdiv (16 * ratePeriod k))
        let i := Spec.trim (held - (e * 1000000000).tdiv (1024 * ratePeriod k))
        { s.tb with
          refPresent := true, state := .locking, entry := false, inWin := inWin, outWin := 0, elapsed := 0, p := p, i := i
          trim := Spec.trim (i + p) }
      (s.tb.state = .freerun → s.tb.enable = false →
          exec (.refEdge c) s = .next (raise .refQualified { s with ref := ref, tb := { s.tb with refPresent := true } }))
        ∧ (s.tb.state = .freerun ∧ s.tb.enable = true ∨ s.tb.state = .holdover →
            (|e| ≤ s.tb.threshold →
                exec (.refEdge c) s
                  = .next (raise .refQualified { s with ref := ref, tb := locking e (if |e| ≤ s.tb.window then 1 else 0) }))
              ∧ (s.tb.threshold < |e| → 0 ≤ s.tb.window → 0 ≤ (s.tb.pt : Int) - e → (s.tb.pt : Int) - e < 2 ^ 64 →
                  ∃ t, exec (.refEdge c) s = .next t ∧ (t.flag .refQualified).set = true ∧ (t.flag .ptStep).set = true
                    ∧ t = { s with
                        tb := { locking 0 1 with pt := ((s.tb.pt : Int) - e).toNat }
                        ref := { ref with lastAccepted := some (adj - e), expectedPt := some (adj - e + ratePeriod k) }
                        marks := t.marks, lanes := t.lanes, fps := t.fps, devices := t.devices, cues := t.cues, dues := t.dues
                        lines := t.lines, attn := t.attn, draws := t.draws }
                    ∧ Spec.stepped s t e))

/-- Sections 3.4 and 3.5: in PRESENT an edge inside the acceptance window is accepted (here with the discipline in FREERUN, where the
Timebase takes no action on it), and one outside changes nothing. -/
def Obligations.AcceptanceWindowAdmitsEdges : Prop :=
  ∀ (s : State) (c : LevelChange) (x : Int) (k : Nat), s.resetLow = false → Spec.edge s.ref c → s.ref.state = .present →
    s.ref.expectedPt = some x → s.ref.house = some k → k ∈ houseCodes →
    let adj := Spec.adjusted s c
    let half : Int := (ratePeriod k / 8 : Nat)
    ((adj < x - half ∨ x + half < adj) → exec (.refEdge c) s = .next s)
      ∧ (x - half ≤ adj → adj ≤ x + half → s.tb.state = .freerun →
          ∃ e, Spec.phase adj e (ratePeriod k)
            ∧ exec (.refEdge c) s = .next { s with ref := Spec.accepted s.ref adj e (ratePeriod k) })

/-- R50, R51 and R65: a window that closes empty is a miss; the fourth makes the reference ABSENT with REF_LOST, and takes LOCKING and LOCKED
to HOLDOVER on the trim last learned. While PT is stalled, or before the window's end, nothing happens. -/
def Obligations.FourMissesLoseTheReference : Prop :=
  ∀ (s : State) (x : Int) (width : Nat), s.resetLow = false → s.ref.state = .present → s.ref.expectedPt = some x →
    (s.ref.filter, width) ∈ [(0, 0), (1, 54), (2, 216), (3, 864)] →
    let period := ratePeriod (s.ref.house.getD 0)
    let close := x + (period / 8 : Nat) - s.ref.delay + width
    ((s.tb.pt : Int) ≤ close ∨ s.src.selected.state ≠ .running → exec .refWindowClose s = .next s)
      ∧ (close < s.tb.pt → s.src.selected.state = .running → s.ref.misses < 3 →
          exec .refWindowClose s
            = .next { s with ref := { s.ref with misses := s.ref.misses + 1, expectedPt := some (x + period) } })
      ∧ (close < s.tb.pt → s.src.selected.state = .running → 3 ≤ s.ref.misses →
          exec .refWindowClose s
            = .next (raise .refLost { s with
                ref := { s.ref with state := .absent, expectedPt := none, misses := 0 }
                tb := if s.tb.state = .locking ∨ s.tb.state = .locked then
                    { s.tb with
                      refPresent := false, state := .holdover, p := 0, trim := s.tb.i, entry := false, inWin := 0, outWin := 0, elapsed := 0 }
                  else { s.tb with refPresent := false } }))

/-- Section 3.6 (R54 and R55): REF_CONFIG's refusal, the clamp of the delay by the expected rate, and what a change of polarity or expected
rate, and a change of delay alone, do in each reference state. That one request which changes both the delay and the rate or polarity moves the
last accepted edge PT before it restarts is log entry 19. -/
def Obligations.RefConfigRestartsOrMoves : Prop :=
  ∀ (s : State) (pol filter expected : Nat) (delay : Int), s.resetLow = false →
    (1 < pol ∨ 3 < filter ∨ 10 < expected → exec (.refConfig pol filter delay expected) s = .next (Spec.no s .badValue))
      ∧ (pol ≤ 1 → filter ≤ 3 → expected ≤ 10 →
          let range : Int := if expected = 0 then 450000 else (ratePeriod expected / 2 : Nat)
          let d := max (-range) (min range delay)
          let r := { s.ref with falling := decide (pol = 1), filter := filter, delay := d, expected := expected }
          let fields := fun st : RefState => [Fld.code pol, .code filter, .ticks d, .code expected, .code st.code]
          let changed := s.ref.falling ≠ decide (pol = 1) ∨ s.ref.expected ≠ expected
          let restarted := { r with state := .qualifying, prev := none, candidate := none, qualify := 0, mismatch := false }
          (s.ref.state = .absent →
              exec (.refConfig pol filter delay expected) s = .next (Spec.ok { s with ref := r } (fields .absent)))
            ∧ (s.ref.state = .qualifying → changed → s.ref.expectedPt = none → s.ref.misses = 0 →
                exec (.refConfig pol filter delay expected) s = .next (Spec.ok { s with ref := restarted } (fields .qualifying)))
            ∧ (s.ref.state = .qualifying → ¬ changed →
                exec (.refConfig pol filter delay expected) s
                  = .next (Spec.ok { s with ref := { r with prev := s.ref.prev.map (· + (d - s.ref.delay)) } } (fields .qualifying)))
            ∧ (s.ref.state = .present → ¬ changed →
                exec (.refConfig pol filter delay expected) s
                  = .next (Spec.ok { s with ref := { r with
                      lastAccepted := s.ref.lastAccepted.map (· + (d - s.ref.delay))
                      expectedPt := s.ref.expectedPt.map (· + (d - s.ref.delay)) } } (fields .present)))
            ∧ (s.ref.state = .present → changed →
                exec (.refConfig pol filter delay expected) s
                  = .next (Spec.ok { s with
                      ref := { restarted with
                        lastAccepted := s.ref.lastAccepted.map (· + (d - s.ref.delay)), expectedPt := none, misses := 0 }
                      tb := if s.tb.state = .locking ∨ s.tb.state = .locked then
                          { s.tb with
                            refPresent := false, state := .holdover, p := 0, trim := s.tb.i, entry := false, inWin := 0, outWin := 0
                            elapsed := 0 }
                        else { s.tb with refPresent := false } } (fields .qualifying))))

/-! ### Timebase and discipline (Chapter 4) -/

/-- Sections 4.5 (R68 to R70) and 3.4: what an accepted edge that is not stepped does to the loop terms, the applied trim, the lock counts
and the discipline state, in LOCKING and in LOCKED; nothing else changes but the Reference Monitor's record of the edge. -/
def Obligations.AcceptedEdgesTrimTheClock : Prop :=
  ∀ (s : State) (c : LevelChange) (x : Int) (k : Nat), s.resetLow = false → Spec.edge s.ref c → s.ref.state = .present →
    s.ref.expectedPt = some x → s.ref.house = some k → k ∈ houseCodes →
    let adj := Spec.adjusted s c
    x - (ratePeriod k / 8 : Nat) ≤ adj → adj ≤ x + (ratePeriod k / 8 : Nat) →
    ∃ e, Spec.phase adj e (ratePeriod k) ∧
      let p := -((e * 1000000000).tdiv (16 * ratePeriod k))
      let i := Spec.trim (s.tb.i - (e * 1000000000).tdiv (1024 * ratePeriod k))
      let ref := Spec.accepted s.ref adj e (ratePeriod k)
      let tb := { s.tb with p := p, i := i, trim := Spec.trim (i + p) }
      (s.tb.state = .locking → (s.tb.entry = false ∨ |e| ≤ s.tb.threshold) →
          (s.tb.window < |e| → exec (.refEdge c) s = .next { s with ref := ref, tb := { tb with entry := false, inWin := 0 } })
            ∧ (|e| ≤ s.tb.window → s.tb.inWin < 15 →
                exec (.refEdge c) s = .next { s with ref := ref, tb := { tb with entry := false, inWin := s.tb.inWin + 1 } })
            ∧ (|e| ≤ s.tb.window → 15 ≤ s.tb.inWin →
                exec (.refEdge c) s
                  = .next (raise .lockAcquired
                      { s with ref := ref, tb := { tb with state := .locked, entry := false, inWin := 0, outWin := 0 } })))
        ∧ (s.tb.state = .locked →
            (|e| ≤ 10 * s.tb.window → exec (.refEdge c) s = .next { s with ref := ref, tb := { tb with outWin := 0 } })
              ∧ (10 * s.tb.window < |e| → s.tb.outWin < 3 →
                  exec (.refEdge c) s = .next { s with ref := ref, tb := { tb with outWin := s.tb.outWin + 1 } })
              ∧ (10 * s.tb.window < |e| → 3 ≤ s.tb.outWin →
                  exec (.refEdge c) s
                    = .next (raise .lockLost { s with
                        ref := ref, tb := { tb with state := .locking, entry := true, inWin := 0, outWin := 0, elapsed := 0 } })))

/-- R67 and R71: an entry edge beyond the step threshold moves PT by −e, with PT_STEP; the monitor's times, the pending marks and the
observations move with it, and the edge goes on as an error of 0, the first of the sixteen. After a backward step nothing else changes. After
a forward one each lane that was passed has taken the latest boundary at or before PT, whatever its state: latched, started or released, its
outputs judged against the record just latched, a released lane's followers shifted, and the cues suspended with it recomputed; every other lane
is as it was but for sticky flags; and the cues of the due list whose dues were passed are late (R84 to R86, R91, R92, R102, R135, R152, R153,
R155). -/
def Obligations.EntryEdgeStepsPictureTime : Prop :=
  ∀ (s : State) (c : LevelChange) (x : Int) (k : Nat), s.resetLow = false → Spec.edge s.ref c → s.ref.state = .present →
    s.ref.expectedPt = some x → s.ref.house = some k → k ∈ houseCodes →
    let adj := Spec.adjusted s c
    x - (ratePeriod k / 8 : Nat) ≤ adj → adj ≤ x + (ratePeriod k / 8 : Nat) →
    s.tb.state = .locking → s.tb.entry = true → s.tb.inWin = 0 → 0 ≤ s.tb.window →
    ∃ e, Spec.phase adj e (ratePeriod k) ∧
      (s.tb.threshold < |e| → 0 ≤ (s.tb.pt : Int) - e → (s.tb.pt : Int) - e < 2 ^ 64 →
        let accepted := Spec.accepted s.ref adj e (ratePeriod k)
        let moved := raise .ptStep { s with
          tb := { s.tb with
            pt := ((s.tb.pt : Int) - e).toNat, entry := false, inWin := 1, p := 0, i := Spec.trim s.tb.i, trim := Spec.trim s.tb.i }
          ref := { accepted with
            lastAccepted := some (adj - e), expectedPt := some (adj - e + ratePeriod k), prev := s.ref.prev.map fun v => v - e }
          marks := s.marks.map fun m => { m with fifo := m.fifo.map fun q => { q with pt := q.pt - e } }
          devices := s.devices.map (Option.map fun d => { d with ring := d.ring.map fun o => { o with pt := o.pt - e } }) }
        (0 < e → exec (.refEdge c) s = .next moved)
          ∧ (e < 0 →
              ∃ t, exec (.refEdge c) s = .next t ∧ (t.flag .ptStep).set = true
                ∧ t = { moved with
                    lanes := t.lanes, fps := t.fps, devices := t.devices, cues := t.cues, dues := t.dues, lines := t.lines, attn := t.attn
                    draws := t.draws }
                ∧ Spec.stepped s t e))

/-- R73, R75 and R76: HOLDOVER expires at its limit, while PT is not stalled; DISCIPLINE_CONFIG's refusal and clamps, what a change of the
enable does, and a new limit that the elapsed count has already reached. That a disable in HOLDOVER leaves no holdover for a new limit to end,
so no HOLDOVER_EXPIRED, is the model's choice between R75 and R76 (log entry 19), and that the new limit ends a holdover in a stall too is log
entry 39. -/
def Obligations.DisciplineIsSwitchedAndExpires : Prop :=
  ∀ s : State, s.resetLow = false →
    let free := fun t : Timebase =>
      { t with state := .freerun, i := s.selectedCal, p := 0, trim := s.selectedCal, entry := false, inWin := 0, outWin := 0, elapsed := 0 }
    (s.tb.state = .holdover → s.tb.limit * 54000000 ≤ s.tb.elapsed → s.src.selected.state = .running →
        exec .holdoverExpiry s = .next (raise .holdoverExpired { s with tb := free s.tb }))
      ∧ (s.tb.state ≠ .holdover ∨ s.tb.elapsed < s.tb.limit * 54000000 ∨ s.src.selected.state ≠ .running →
          exec .holdoverExpiry s = .next s)
      ∧ ∀ (en : Nat) (window threshold : Int) (limit : Nat),
          let cmd := Instr.disciplineConfig en window threshold limit
          let w := max 27 (min 27000 window)
          let h := max 540 (min 540000 threshold)
          let n := max 10 (min 86400 limit)
          let tb := { s.tb with enable := decide (en = 1), window := w, threshold := h, limit := n }
          let reply := fun st : DiscState => [Fld.code en, .ticks w, .ticks h, .word n, .code st.code]
          (1 < en → exec cmd s = .next (Spec.no s .badValue))
            ∧ (en = 0 → s.tb.enable = true → s.tb.state ≠ .freerun →
                exec cmd s = .next (Spec.ok { s with tb := free tb } (reply .freerun)))
            ∧ (en = 0 → s.tb.state = .freerun → exec cmd s = .next (Spec.ok { s with tb := tb } (reply .freerun)))
            ∧ (en = 1 → s.tb.enable = false → s.tb.state = .freerun → s.tb.refPresent = false →
                exec cmd s = .next (Spec.ok { s with tb := tb } (reply .freerun)))
            ∧ (en = 1 → s.tb.enable = false → s.tb.state = .freerun → s.tb.refPresent = true →
                exec cmd s
                  = .next (Spec.ok { s with tb := { tb with
                      state := .locking, i := s.selectedCal, p := 0, trim := Spec.trim s.selectedCal, entry := true, inWin := 0, outWin := 0
                      elapsed := 0 } } (reply .locking)))
            ∧ (en = 1 → s.tb.enable = true → (s.tb.state ≠ .holdover ∨ s.tb.elapsed < n * 54000000) →
                exec cmd s = .next (Spec.ok { s with tb := tb } (reply s.tb.state)))
            ∧ (en = 1 → s.tb.enable = true → s.tb.state = .holdover → n * 54000000 ≤ s.tb.elapsed →
                exec cmd s = .next (Spec.ok (raise .holdoverExpired { s with tb := free tb }) (reply .freerun)))

/-- R60 to R63: TIME_SET's refusal; the value taken, moved in LOCKING and LOCKED by whole house periods' worth of the least distance; the
first one starts the WAITING lanes and the suspended ABSOLUTE cues, in time or late; and a later one is a time discontinuity, which empties the
mark inputs and the rings, resets the tracking of the lanes, searches the wildcard cues of the due list anew, and makes the others that it has
passed late (R87, R113, R137, R152, R153). -/
def Obligations.TimeSetPlacesPictureTime : Prop :=
  ∀ (s : State) (time : Nat), s.resetLow = false →
    (2 ^ 56 ≤ time → exec (.timeSet time) s = .next (Spec.no s .badValue))
      ∧ (time < 2 ^ 56 → (s.tb.state = .locking ∨ s.tb.state = .locked → s.ref.house.getD 0 ∈ houseCodes) →
          ∃ (t : State) (a : Int),
            let v : Int := time + a
            let period : Int := ratePeriod (s.ref.house.getD 0)
            exec (.timeSet time) s = .next (Spec.ok t [.pt v, .ticks a, .code s.tb.state.code])
              ∧ (s.tb.state = .freerun ∨ s.tb.state = .holdover → a = 0)
              ∧ (s.tb.state = .locking ∨ s.tb.state = .locked →
                  (∃ m : Int, v = s.tb.pt + m * period) ∧ 0 ≤ v
                    ∧ (-period < 2 * a ∧ 2 * a ≤ period ∨ period < 2 * a ∧ v < period))
              ∧ t = { s with
                  tb := { s.tb with pt := v.toNat, set := true }
                  ref := { s.ref with
                    lastAccepted := s.ref.lastAccepted.map fun q => q + (v - s.tb.pt)
                    expectedPt := s.ref.expectedPt.map fun q => q + (v - s.tb.pt)
                    prev := s.ref.prev.map fun q => q + (v - s.tb.pt) }
                  lanes := t.lanes, marks := t.marks, devices := t.devices, cues := t.cues, dues := t.dues, lines := t.lines, attn := t.attn
                  draws := t.draws }
              ∧ (s.tb.set = false →
                  t.marks = s.marks ∧ (s.cuesOk → t.devices = s.devices)
                    ∧ (∀ lane < 16, (s.lane lane).state ≠ .waiting → t.lane lane = s.lane lane)
                    ∧ (∀ lane < 16, ∀ k : Int, (s.lane lane).state = .waiting → (s.lane lane).phase + (k - 1) * (s.lane lane).period < v →
                        v ≤ (s.lane lane).phase + k * (s.lane lane).period → t.lane lane = { s.lane lane with next := some k })
                    ∧ (∀ slot < 64, ∀ q pt, s.cue slot = some q → q.state = .suspended → q.anchor = .absolute pt →
                        let u := { q with state := .waiting, due := some pt }
                        (v ≤ pt → t.cue slot = some u ∧ slot ∈ t.dues) ∧ ((pt : Int) < v → Spec.late t slot u pt))
                    ∧ (∀ slot < 64, ∀ q, s.cue slot = some q → (q.state ≠ .suspended ∨ q.anchor.lane?.isSome = true) → t.cue slot = some q))
              ∧ (s.tb.set = true →
                  (t.flag .timeDiscontinuity).set = true ∧ t.marks = s.marks.map (fun m => { m with fifo := [] })
                    ∧ (∀ n < 32, ∀ d, s.device n = some d →
                        ∃ d', t.device n = some d' ∧ d'.ring = [] ∧ d'.offsetEst = none ∧ d'.driftEst = none ∧ d'.outliers = 0
                          ∧ (d.cue = none → d' = { d with
                              ring := [], top := 0, offsetEst := none, driftEst := none, outliers := 0, silenceLeft := none
                              state := .unseen }))
                    ∧ (∀ lane < 16, ∀ k : Int, (s.lane lane).state ≠ .free → (s.lane lane).phase + (k - 1) * (s.lane lane).period < v →
                        v ≤ (s.lane lane).phase + k * (s.lane lane).period →
                        t.lane lane = { s.lane lane with next := some k, sticky := (t.lane lane).sticky })
                    ∧ (s.duesOk → ∀ slot < 64, ∀ q, s.cue slot = some q →
                        (slot ∉ s.dues → t.cue slot = some q)
                          ∧ (slot ∈ s.dues → q.anchor.wildcard = false → Spec.judged t slot q)
                          ∧ (slot ∈ s.dues → q.anchor.wildcard = true → (∀ i ∈ q.anchor.lane?, (s.lane i).rateOk) →
                              ∀ x cur, Spec.due t q.anchor q.current v x cur → x < 2 ^ 64 →
                              t.cue slot = some { q with current := cur, due := some x.toNat } ∧ slot ∈ t.dues))))

/-! ### Labels and conversions (Chapter 1) -/

/-- Section 1.3: the label of a count by R7, and by R9 on a drop-frame lane; the labels of a lane's counts exist and are well-formed, the counts
of its existing labels lie within the labelled day, and the two directions invert each other; and which well-formed labels do not exist. -/
def Obligations.LabelsAndCountsInvert : Prop :=
  ∀ l : Lane, l.rateOk →
    let nominal := fun n ind : Nat => (⟨n / l.base / 3600, n / l.base / 60 % 60, n / l.base % 60, n % l.base, ind⟩ : Label)
    (l.df = false → l.nDay = l.base * 86400 ∧ ∀ c, l.labelOf c = nominal c 0)
      ∧ (∀ d f10 f1 nDay : Nat, l.df = true → (l.code, d, f10, f1, nDay) ∈ [(4, 2, 17982, 1798, 2589408), (9, 4, 35964, 3596, 5178816)] →
          l.nDay = nDay
            ∧ ∀ c,
              let tens := c / f10
              let m := c % f10
              (m < d → l.labelOf c = nominal (c + 9 * d * tens) 1)
                ∧ (d ≤ m → l.labelOf c = nominal (c + 9 * d * tens + d * ((m - d) / f1)) 1))
      ∧ (∀ c < l.nDay, l.wellFormed (l.labelOf c) = true ∧ l.labelExists (l.labelOf c) = true ∧ l.countOf (l.labelOf c) = c)
      ∧ (∀ lab, l.wellFormed lab = true → l.labelExists lab = true → l.countOf lab < l.nDay ∧ l.labelOf (l.countOf lab) = lab)
      ∧ (∀ lab, l.labelExists lab = false
          ↔ l.df = true ∧ lab.mm % 10 ≠ 0 ∧ lab.ss = 0 ∧ lab.ff < (if l.code = 4 then 2 else 4))

namespace Sys2Proof.Spec

/-- The fields of a LANE_CONVERT reply, with the conditions met masked (R95). -/
def converted (lab : Label) (sub sample pt : Int) (met : Conds) : List Fld :=
  [.label lab, .ticks sub, .sample sample, .pt pt, .code (if met.invalid then 1 else 0), .code (if met.range then 1 else 0),
    .code (if met.inexact then 1 else 0)]

end Sys2Proof.Spec

/-- Sections 1.4 to 1.8 and R95: LANE_CONVERT's refusals in their order; then from PT to the label and the sample position, from a label to its
NEXT and its NEAREST occurrence, and from a sample position to the first tick at or after it; with INVALID, RANGE and INEXACT, masked and
unmasked, in the order in which they are met (R24). That a sub-frame offset below 0 is refused is log entry 21, and the code of a condition met log
entry 36. -/
def Obligations.ConversionsAreExact : Prop :=
  ∀ (s : State) (lane dir pt sel : Nat) (lab : Label) (off pos : Int), s.resetLow = false →
    let l := s.lane lane
    let cmd := Instr.laneConvert lane dir pt lab sel off pos
    let named := lane ≤ 15 ∧ dir ≤ 2 ∧ (dir = 1 → sel ≤ 1) ∧ (dir = 2 → -2 ^ 47 ≤ pos ∧ pos < 2 ^ 47)
    let fits := (dir = 1 → l.wellFormed lab = true ∧ 0 ≤ off ∧ off < l.period) ∧ (dir = 2 → l.sound.isSome = true)
    (¬ named → exec cmd s = .next (Spec.no s .badValue))
      ∧ (named → l.state = .free → exec cmd s = .next (Spec.no s .noSuch))
      ∧ (named → l.state ≠ .free → ¬ fits → exec cmd s = .next (Spec.no s .badValue))
      ∧ (named → fits → l.state = .waiting → exec cmd s = .next (Spec.no s .wrongState))
      ∧ (∀ m, named → fits → l.state.mapped = true → l.rateOk → l.mapping = some m →
          let day : Int := l.nDay * l.period
          let origin : Int := l.phase + m.k0 * l.period
          (dir = 0 →
              let k : Int := (pt - l.phase) / l.period
              let c : Int := m.c0 + (k - m.k0)
              let label := l.labelOf (c % l.nDay).toNat
              let sub : Int := pt - (l.phase + k * l.period)
              let wide := decide (c < 0 ∨ l.nDay ≤ c)
              let s₁ := Spec.stuckIf wide s lane .range
              (wide = true → l.masks.range = false → exec cmd s = .next (Spec.no s₁ .range))
                ∧ (wide = false ∨ l.masks.range = true →
                    (l.sound = none → exec cmd s = .next (Spec.ok s₁ (Spec.converted label sub 0 0 ⟨false, wide, false⟩)))
                      ∧ ∀ x p, l.sound = some x →
                          let num := (pt - origin) * x.rate * x.pn
                          let den := 54000000 * x.pd
                          Spec.rounds l.rounding num den p →
                          let part := decide (num % den ≠ 0)
                          let far := decide (p < -2 ^ 47 ∨ 2 ^ 47 ≤ p)
                          let s₂ := Spec.stuckIf part s₁ lane .inexact
                          let s₃ := Spec.stuckIf far s₂ lane .range
                          (part = true → l.masks.inexact = false → exec cmd s = .next (Spec.no s₂ .inexact))
                            ∧ (part = false ∨ l.masks.inexact = true →
                                (far = true → l.masks.range = false → exec cmd s = .next (Spec.no s₃ .range))
                                  ∧ (far = false ∨ l.masks.range = true →
                                      exec cmd s
                                        = .next (Spec.ok s₃
                                            (Spec.converted label sub (max (-2 ^ 47) (min (2 ^ 47 - 1) p)) 0 ⟨false, wide || far, part⟩))))))
            ∧ (dir = 1 →
                let inv := !l.labelExists lab
                let taken := if inv then Spec.raised l lab else lab
                let s₁ := Spec.stuckIf inv s lane .invalid
                (inv = true → l.masks.invalid = false → exec cmd s = .next (Spec.no s₁ .invalidLabel))
                  ∧ (inv = false ∨ l.masks.invalid = true →
                      ∃ x : Int, (∃ j : Int, x = Spec.place l (m.k0 + ((l.countOf taken : Int) - m.c0) % l.nDay + j * l.nDay) off)
                        ∧ (sel = 1 → s.tb.pt ≤ x ∧ x < s.tb.pt + day)
                        ∧ (sel = 0 → -day ≤ 2 * (x - s.tb.pt) ∧ 2 * (x - s.tb.pt) < day)
                        ∧ (let far := decide (x < 0 ∨ 2 ^ 64 ≤ x)
                          let s₂ := Spec.stuckIf far s₁ lane .range
                          (far = true → l.masks.range = false → exec cmd s = .next (Spec.no s₂ .range))
                            ∧ (far = false ∨ l.masks.range = true →
                                exec cmd s = .next (Spec.ok s₂ (Spec.converted Spec.zero 0 0 (Spec.clampPt x) ⟨inv, far, false⟩))))))
            ∧ (∀ q x, dir = 2 → l.sound = some q → Spec.tick l q pos x →
                let part := decide (pos * (54000000 * q.pd) ≠ (x - origin) * (q.rate * q.pn))
                let far := decide (x < 0 ∨ 2 ^ 64 ≤ x)
                let s₁ := Spec.stuckIf part s lane .inexact
                let s₂ := Spec.stuckIf far s₁ lane .range
                (part = true → l.masks.inexact = false → exec cmd s = .next (Spec.no s₁ .inexact))
                  ∧ (part = false ∨ l.masks.inexact = true →
                      (far = true → l.masks.range = false → exec cmd s = .next (Spec.no s₂ .range))
                        ∧ (far = false ∨ l.masks.range = true →
                            exec cmd s = .next (Spec.ok s₂ (Spec.converted Spec.zero 0 0 (Spec.clampPt x) ⟨false, far, part⟩))))))

/-! ### Lanes (Chapter 5) -/

/-- R81 to R83: LANE_DEFINE's refusals in their order, the values it takes as clamped, and the WAITING lane it leaves under each origin. -/
def Obligations.LaneDefineSetsUpAWaitingLane : Prop :=
  ∀ (s : State) (lane code : Nat) (customP : Int) (customB mode : Nat) (phase : Int) (sound rate pull origin : Nat) (label : Label) (k : Int),
    s.resetLow = false →
    let cmd := Instr.laneDefine lane code customP customB mode phase sound rate pull origin label
    let fits := lane ≤ 15 ∧ (1 ≤ code ∧ code ≤ 10 ∨ code = 15) ∧ (mode = 0 ∨ mode = 1 ∧ (code = 4 ∨ code = 9))
      ∧ (sound = 0 ∨ sound = 1 ∧ rate ≤ 1 ∧ pull ≤ 2) ∧ origin ≤ 1
    let period : Nat := if code = 15 then (max 225000 (min 10800000 customP)).toNat else ratePeriod code
    let old := s.lane lane
    let l : Lane :=
      { state := .waiting, code := code, period := period, base := if code = 15 then max 1 (min 250 customB) else rateBase code
        df := decide (mode = 1), phase := (max 0 (min ((period : Int) - 1) phase)).toNat, atNext := decide (origin = 1)
        mapping := if origin = 0 then some ⟨0, 0⟩ else none, rounding := old.rounding, masks := old.masks, sticky := old.sticky
        sound := if sound = 1 then some ⟨decide (rate = 1), pull⟩ else none, pendingLabel := none, frozen := none, latched := none
        next := if s.tb.set then some k else none }
    let fields := fun lab : Label =>
      [Fld.code code, .ticks l.period, .short l.base, .code mode, .ticks l.phase, .code sound,
        .code (if sound = 1 then rate else 0), .code (if sound = 1 then pull else 0), .code origin, .label lab, .code 1]
    (¬ fits → exec cmd s = .next (Spec.no s .badValue))
      ∧ (fits → origin = 1 → l.wellFormed label = false → exec cmd s = .next (Spec.no s .badValue))
      ∧ (fits → (origin = 0 ∨ l.wellFormed label = true) → old.state ≠ .free → exec cmd s = .next (Spec.no s .wrongState))
      ∧ (fits → old.state = .free → (l.phase : Int) + (k - 1) * l.period < s.tb.pt → (s.tb.pt : Int) ≤ l.phase + k * l.period →
          (origin = 0 → exec cmd s = .next (Spec.ok (s.setLane lane l) (fields Spec.zero)))
            ∧ (origin = 1 → l.wellFormed label = true → l.labelExists label = true →
                exec cmd s
                  = .next (Spec.ok (s.setLane lane { l with pendingLabel := some (l.countOf label) })
                      (fields label)))
            ∧ (origin = 1 → l.wellFormed label = true → l.labelExists label = false →
                let taken := { label with ff := if code = 4 then 2 else 4 }
                (old.masks.invalid = true →
                    exec cmd s
                      = .next (Spec.ok (Spec.stuck (s.setLane lane { l with pendingLabel := some (l.countOf taken) }) lane .invalid)
                          (fields taken)))
                  ∧ (old.masks.invalid = false → exec cmd s = .next (Spec.no (Spec.stuck s lane .invalid) .invalidLabel))))

namespace Sys2Proof.Spec

/-- The frame-pulse outputs after a boundary of a lane (R102). -/
def pulse (s : State) (lane : Nat) (p : FramePulse → Bool) : Bank FramePulse 4 :=
  s.fps.map fun f => if f.lane = some lane && p f then { f with level := !f.activeLow, remaining := f.width } else f

/-- `t` is `s` with its lanes, outputs, devices, cues and attention flags perhaps changed, and no other lane than `lane`. -/
def laneOnly (s t : State) (lane : Nat) : Prop :=
  t = { s with lanes := t.lanes, fps := t.fps, devices := t.devices, cues := t.cues, dues := t.dues, lines := t.lines, attn := t.attn }
    ∧ ∀ j < 16, j ≠ lane → t.lane j = s.lane j

end Sys2Proof.Spec

/-- R83 to R85, R91, R92 and R102: a boundary falls due when PT reaches it, not before, and not in a stall. A RUNNING lane latches its running
label and a HELD one its frozen label; a WAITING lane starts; a RELEASING lane takes its new mapping, and the offsets of its followers shift.
The lane's outputs are judged against the record just latched, and at a start or a release the lane's cues are recomputed (R155). -/
def Obligations.BoundariesLatchLabels : Prop :=
  ∀ (s : State) (lane : Nat) (k : Int), s.resetLow = false → lane < 16 → s.tb.set = true →
    let l := s.lane lane
    l.next = some k → l.state ≠ .free →
    ((s.tb.pt : Int) < l.phase + k * l.period ∨ s.src.selected.state ≠ .running → exec (.laneBoundary lane) s = .next s)
      ∧ (l.phase + k * l.period ≤ (s.tb.pt : Int) → s.src.selected.state = .running →
          (∀ m, l.state = .running → l.mapping = some m →
              let count := ((m.c0 + (k - m.k0)) % l.nDay).toNat
              exec (.laneBoundary lane) s
                = .next { s.setLane lane (Spec.latch l k count) with fps := Spec.pulse s lane fun f => decide (count % f.cadence = 0) })
            ∧ (∀ c, l.state = .held → l.frozen = some c →
                exec (.laneBoundary lane) s
                  = .next { s.setLane lane (Spec.latch l k c) with fps := Spec.pulse s lane fun f => decide (f.cadence = 1) })
            ∧ (l.state = .waiting → l.atNext = false → 0 < l.nDay →
                let c := (k % l.nDay).toNat
                ∃ t, exec (.laneBoundary lane) s = .next t ∧ Spec.laneOnly s t lane ∧ Spec.recomputed s t lane
                  ∧ (t.flag .laneReleased).set = true ∧ t.fps = Spec.pulse s lane (fun f => decide (c % f.cadence = 0))
                  ∧ t.lane lane
                    = { Spec.latch { l with state := .running, mapping := some ⟨0, 0⟩, pendingLabel := none } k c with
                        sticky := (t.lane lane).sticky })
            ∧ (∀ c, l.state = .waiting → l.atNext = true → l.pendingLabel = some c → c < l.nDay →
                ∃ t, exec (.laneBoundary lane) s = .next t ∧ Spec.laneOnly s t lane ∧ Spec.recomputed s t lane
                  ∧ (t.flag .laneReleased).set = true ∧ t.fps = Spec.pulse s lane (fun f => decide (c % f.cadence = 0))
                  ∧ t.lane lane
                    = { Spec.latch { l with state := .running, mapping := some ⟨k, c⟩, pendingLabel := none } k c with
                        sticky := (t.lane lane).sticky })
            ∧ (∀ m, l.state = .releasing → l.mapping = some m → 0 < l.nDay → (∀ c ∈ l.pendingLabel, c < l.nDay) →
                let c := match l.pendingLabel with
                  | some c => c
                  | none => (l.frozen.getD 0 + 1) % l.nDay
                ∃ (t : State) (delta : Int), exec (.laneBoundary lane) s = .next t ∧ Spec.laneOnly s t lane ∧ Spec.recomputed s t lane
                  ∧ (t.flag .laneReleased).set = true ∧ t.fps = Spec.pulse s lane (fun f => decide (c % f.cadence = 0))
                  ∧ t.lane lane
                    = { Spec.latch { l with state := .running, mapping := some ⟨k, c⟩, pendingLabel := none, frozen := none } k c with
                        sticky := (t.lane lane).sticky }
                  ∧ (∃ q : Int, delta = (c - k) - (m.c0 - m.k0) + q * l.nDay)
                  ∧ -(l.nDay / 2 : Nat) ≤ delta ∧ delta ≤ l.nDay - 1 - (l.nDay / 2 : Nat)
                  ∧ ∀ n < 32, ∀ d, s.device n = some d → d.lane = lane →
                      ∃ d', t.device n = some d' ∧ d'.offsetEst = d.offsetEst.map (fun o => o + delta * l.period)
                        ∧ d'.ring = d.ring.map fun o => { o with offset := o.offset + delta * l.period }))

/-- R88 to R90 and R154: LANE_HOLD, LANE_SET_LABEL and LANE_RELEASE in every lane state; the hold freezes the latched label and suspends the
lane's cues, and a pulse of a cue that it suspends ends. -/
def Obligations.HoldLabelAndRelease : Prop :=
  ∀ (s : State) (lane : Nat) (label : Label), s.resetLow = false →
    let l := s.lane lane
    (15 < lane →
        exec (.laneHold lane) s = .next (Spec.no s .badValue) ∧ exec (.laneRelease lane) s = .next (Spec.no s .badValue)
          ∧ exec (.laneSetLabel lane label) s = .next (Spec.no s .badValue))
      ∧ (lane ≤ 15 →
          (l.state = .free ∨ l.state = .waiting ∨ l.state = .held → exec (.laneHold lane) s = .next (Spec.no s .wrongState))
            ∧ (∀ c, l.state = .releasing → l.frozen = some c →
                exec (.laneHold lane) s
                  = .next (Spec.ok (s.setLane lane { l with state := .held }) [.code 3, .label (l.labelOf c)]))
            ∧ (∀ r, l.state = .running → l.latched = some r →
                let suspends := fun slot : Nat =>
                  (s.cue slot).any fun q => q.on lane && (decide (q.state = .waiting) || decide (q.state = .pulsing) && q.further)
                ∃ t, exec (.laneHold lane) s = .next (Spec.ok t [.code 3, .label (l.labelOf r.count)])
                  ∧ t = { s.setLane lane { l with state := .held, frozen := some r.count } with cues := t.cues, dues := t.dues, lines := t.lines }
                  ∧ t.dues = s.dues.filter (fun slot => !suspends slot)
                  ∧ (∀ slot < 64, t.cue slot
                      = if suspends slot then (s.cue slot).map fun q => { q with state := .suspended, due := none, remaining := 0 } else s.cue slot)
                  ∧ (s.linesOk → ∀ j < 8, t.line j
                      = if (s.line j).holder.any suspends then { s.line j with level := (s.line j).idle, holder := none } else s.line j))
            ∧ (l.state ≠ .held → exec (.laneRelease lane) s = .next (Spec.no s .wrongState))
            ∧ (∀ k, l.state = .held → l.next = some k →
                exec (.laneRelease lane) s = .next (Spec.ok (s.setLane lane { l with state := .releasing }) [.code 4, .index k]))
            ∧ (l.state = .free → exec (.laneSetLabel lane label) s = .next (Spec.no s .wrongState))
            ∧ (l.state ≠ .free → l.wellFormed label = false → exec (.laneSetLabel lane label) s = .next (Spec.no s .badValue))
            ∧ (l.state ≠ .free → l.state ≠ .held → l.wellFormed label = true →
                exec (.laneSetLabel lane label) s = .next (Spec.no s .wrongState))
            ∧ (l.state = .held → l.rateOk → l.wellFormed label = true → l.labelExists label = true →
                exec (.laneSetLabel lane label) s
                  = .next (Spec.ok (s.setLane lane { l with pendingLabel := some (l.countOf label) }) [.label label]))
            ∧ (l.state = .held → l.wellFormed label = true → l.labelExists label = false → l.masks.invalid = false →
                exec (.laneSetLabel lane label) s = .next (Spec.no (Spec.stuck s lane .invalid) .invalidLabel))
            ∧ (l.state = .held → l.rateOk → l.wellFormed label = true → l.labelExists label = false → l.masks.invalid = true →
                exec (.laneSetLabel lane label) s
                  = .next (Spec.ok (Spec.stuck (s.setLane lane { l with pendingLabel := some (l.countOf (Spec.raised l label)) }) lane .invalid)
                      [.label (Spec.raised l label)])))

/-- R93, R94 and R136: LANE_JAM's refusals in their order; a jam of no frames; and one that moves the lane's labels by the rounded offset,
with the offsets of every follower, keeping k0, and recomputes its cues (R155). -/
def Obligations.JamsMoveTheMapping : Prop :=
  ∀ (s : State) (lane device : Nat), s.resetLow = false →
    let l := s.lane lane
    (15 < lane ∨ 31 < device → exec (.laneJam lane device) s = .next (Spec.no s .badValue))
      ∧ (lane ≤ 15 → device ≤ 31 → (l.state = .free ∨ ∀ d, s.device device = some d → d.lane ≠ lane) →
          exec (.laneJam lane device) s = .next (Spec.no s .noSuch))
      ∧ (∀ d, lane ≤ 15 → device ≤ 31 → s.device device = some d → d.lane = lane → l.state ≠ .free →
          (l.state ≠ .running → exec (.laneJam lane device) s = .next (Spec.no s .wrongState))
            ∧ (l.state = .running → d.offsetEst = none → exec (.laneJam lane device) s = .next (Spec.no s .noEstimate))
            ∧ (∀ o m, l.state = .running → d.offsetEst = some o → l.mapping = some m → l.rateOk → m.c0 < l.nDay →
                (o % l.period ≠ 0 → l.masks.inexact = false →
                    exec (.laneJam lane device) s = .next (Spec.no (Spec.stuck s lane .inexact) .inexact))
                  ∧ ((o % l.period = 0 ∨ l.masks.inexact = true) →
                      let jammed := if o % l.period = 0 then s else Spec.stuck s lane .inexact
                      ∃ delta : Int, (∃ q : Int, delta = -(l.rounding.apply o l.period) + q * l.nDay)
                        ∧ -(l.nDay / 2 : Nat) ≤ delta ∧ delta ≤ l.nDay - 1 - (l.nDay / 2 : Nat)
                        ∧ (delta = 0 → exec (.laneJam lane device) s = .next (Spec.ok jammed [.index 0, .word m.c0, .ticks o]))
                        ∧ (delta ≠ 0 →
                            let c := ((m.c0 + delta) % l.nDay).toNat
                            ∃ t, exec (.laneJam lane device) s
                                = .next (Spec.ok t [.index delta, .word c, .ticks (o + delta * l.period)])
                              ∧ t = { s with
                                  lanes := t.lanes, devices := t.devices, cues := t.cues, dues := t.dues, lines := t.lines, attn := t.attn }
                              ∧ (∀ j < 16, j ≠ lane → t.lane j = s.lane j) ∧ Spec.recomputed s t lane
                              ∧ t.lane lane = { l with mapping := some ⟨m.k0, c⟩, sticky := (t.lane lane).sticky }
                              ∧ ∀ n < 32, ∀ x, s.device n = some x → x.lane = lane →
                                  ∃ x', t.device n = some x' ∧ x'.offsetEst = x.offsetEst.map (fun v => v + delta * l.period)
                                    ∧ x'.ring = x.ring.map fun v => { v with offset := v.offset + delta * l.period }))))

/-- R96 and R99: LANE_EXCEPTIONS reads the sticky flags, 1 for set (log entry 36), and then clears those asked for; LANE_CLEAR frees a lane that
nothing names. -/
def Obligations.LaneSettingsAndClearing : Prop :=
  ∀ (s : State) (lane a b c r x y z : Nat), s.resetLow = false →
    let l := s.lane lane
    let cmd := Instr.laneExceptions lane a b c r x y z
    (15 < lane ∨ 1 < a ∨ 1 < b ∨ 1 < c ∨ 3 < r ∨ 1 < x ∨ 1 < y ∨ 1 < z → exec cmd s = .next (Spec.no s .badValue))
      ∧ (lane ≤ 15 → a ≤ 1 → b ≤ 1 → c ≤ 1 → x ≤ 1 → y ≤ 1 → z ≤ 1 →
          ∀ mode, (r, mode) ∈ [(0, Rounding.nearestEven), (1, .down), (2, .up), (3, .towardZero)] →
          exec cmd s
            = .next (Spec.ok
                (s.setLane lane { l with
                  masks := ⟨decide (a = 0), decide (b = 0), decide (c = 0)⟩, rounding := mode
                  sticky := ⟨l.sticky.invalid && decide (x = 0), l.sticky.range && decide (y = 0), l.sticky.inexact && decide (z = 0)⟩ })
                [.code a, .code b, .code c, .code r, .code (if l.sticky.invalid then 1 else 0), .code (if l.sticky.range then 1 else 0),
                  .code (if l.sticky.inexact then 1 else 0)]))
      ∧ (15 < lane → exec (.laneClear lane) s = .next (Spec.no s .badValue))
      ∧ (lane ≤ 15 → l.state = .free → exec (.laneClear lane) s = .next (Spec.ok s []))
      ∧ (lane ≤ 15 → l.state ≠ .free →
          let named := (∃ n < 32, ∃ d, s.device n = some d ∧ d.lane = lane)
            ∨ (∃ slot < 64, ∃ q, s.cue slot = some q ∧ q.anchor.lane? = some lane) ∨ ∃ o < 4, (s.fp o).lane = some lane
          (named → exec (.laneClear lane) s = .next (Spec.no s .inUse))
            ∧ (¬ named →
                exec (.laneClear lane) s
                  = .next (Spec.ok (s.setLane lane { Lane.reset with masks := l.masks, rounding := l.rounding, sticky := l.sticky }) [])))

/-- R101 and R102: PULSE_ASSIGN's refusals and clamps and the idle output it leaves; a pulse whose width has run out returns to idle.
The reply's code of the output level is log entry 36. -/
def Obligations.FramePulsesAreAssignedAndEnd : Prop :=
  ∀ (s : State) (output lane : Nat) (width : Int) (pol cadence : Nat), s.resetLow = false →
    let cmd := Instr.pulseAssign output lane width pol cadence
    (3 < output ∨ (15 < lane ∧ lane ≠ 255) ∨ 1 < pol → exec cmd s = .next (Spec.no s .badValue))
      ∧ (output ≤ 3 → pol ≤ 1 → lane ≤ 15 → (s.lane lane).state = .free → exec cmd s = .next (Spec.no s .noSuch))
      ∧ (output ≤ 3 → pol ≤ 1 → (lane = 255 ∨ lane ≤ 15 ∧ (s.lane lane).state ≠ .free ∧ 108 ≤ (s.lane lane).period) →
          let most : Int := if lane = 255 then 10799946 else (s.lane lane).period - 54
          let w := (max 54 (min most width)).toNat
          let n := max 1 (min 120 cadence)
          exec cmd s
            = .next (Spec.ok
                (s.setFp output
                  { lane := if lane = 255 then none else some lane, width := w, activeLow := decide (pol = 1), cadence := n
                    level := decide (pol = 1), remaining := 0 })
                [.code output, .code lane, .ticks w, .code pol, .code n, .code pol]))
      ∧ (output < 4 → (s.fp output).level = !(s.fp output).activeLow →
          ((s.fp output).remaining = 0 → s.src.selected.state = .running →
              exec (.framePulseEnd output) s = .next (s.setFp output { s.fp output with level := (s.fp output).activeLow }))
            ∧ (0 < (s.fp output).remaining ∨ s.src.selected.state ≠ .running → exec (.framePulseEnd output) s = .next s))

/-! ### Mark inputs (Chapter 6) -/

namespace Sys2Proof.Spec

/-- A level change on a mark input that is recognized and of the selected kind (R104): held for the filter's width, not the reversal of one that
was not, not abandoned. -/
def mark (m : MarkInput) (c : LevelChange) : Prop :=
  c.abandoned = false ∧ c.reversal = false ∧ (m.edge = .rising → c.rise = true) ∧ (m.edge = .falling → c.rise = false)
    ∧ ∃ width, (m.filter, width) ∈ [(0, 0), (1, 1000), (2, 4000), (3, 16000)] ∧ width ≤ c.heldNs

end Sys2Proof.Spec

/-- R104 to R107: an accepted edge is counted and starts the holdoff; the one that brings the count to D makes a capture while the time is
SET, with the next capture number, making room by at most one removal with MARK_OVERFLOW. An input that is not ARMED hears nothing, and nothing
comes of a change that is not of the kind selected, is abandoned, is held for less than the filter's width, or reverses such a one. The facts of
the filter's judgement ride on the command (log entry 6). -/
def Obligations.MarkEdgesAreCountedAndCaptured : Prop :=
  ∀ (s : State) (input : Nat) (c : LevelChange), s.resetLow = false → input < 8 →
    let m := s.mark input
    let k : Mark := ⟨m.nextNumber, (s.tb.pt : Int) - c.age⟩
    let held := { m with state := if 0 < m.holdoff then .holdoff else m.state, remaining := m.holdoff }
    let captured := fun fifo : List Mark => { held with counter := 0, nextNumber := (m.nextNumber + 1) % 65536, fifo := fifo ++ [k] }
    (m.state ≠ .armed ∨ c.abandoned = true ∨ (m.edge = .rising ∧ c.rise = false) ∨ (m.edge = .falling ∧ c.rise = true)
          ∨ c.reversal = true ∨ (∃ width, (m.filter, width) ∈ [(0, 0), (1, 1000), (2, 4000), (3, 16000)] ∧ c.heldNs < width) →
        exec (.markEdge input c) s = .next s)
      ∧ (m.state = .armed → Spec.mark m c →
          (m.counter + 1 < m.decimation → exec (.markEdge input c) s = .next (s.setMark input { held with counter := m.counter + 1 }))
            ∧ (m.decimation ≤ m.counter + 1 → (s.tb.set = false ∨ c.oldTime = true) →
                exec (.markEdge input c) s = .next (s.setMark input { held with counter := 0 }))
            ∧ (m.decimation ≤ m.counter + 1 → s.tb.set = true → c.oldTime = false →
                ((∃ x ∈ m.fifo, x.number = m.nextNumber) →
                    exec (.markEdge input c) s
                      = .next (raise .markOverflow (s.setMark input (captured (m.fifo.filter fun x => decide (x.number ≠ m.nextNumber))))))
                  ∧ ((∀ x ∈ m.fifo, x.number ≠ m.nextNumber) → 4 ≤ m.fifo.length →
                      exec (.markEdge input c) s = .next (raise .markOverflow (s.setMark input (captured (m.fifo.drop 1)))))
                  ∧ ((∀ x ∈ m.fifo, x.number ≠ m.nextNumber) → m.fifo.length < 4 →
                      exec (.markEdge input c) s = .next (s.setMark input (captured m.fifo)))))

/-- R105, R108 and R109: a holdoff that has run out arms the input again; the oldest mark expires when PT reaches the end of its pairing
window, with the marks of the same capture PT; neither happens before, or while PT is stalled. -/
def Obligations.HoldoffsEndAndMarksExpire : Prop :=
  ∀ (s : State) (input : Nat), s.resetLow = false → input < 8 →
    let m := s.mark input
    (m.state = .holdoff → m.remaining = 0 → s.src.selected.state = .running →
        exec (.holdoffEnd input) s = .next (s.setMark input { m with state := .armed }))
      ∧ (m.state ≠ .holdoff ∨ 0 < m.remaining ∨ s.src.selected.state ≠ .running → exec (.holdoffEnd input) s = .next s)
      ∧ (m.fifo = [] ∨ s.src.selected.state ≠ .running → exec (.markExpiry input) s = .next s)
      ∧ (∀ k rest, m.fifo = k :: rest → s.src.selected.state = .running →
          ((s.tb.pt : Int) < k.pt + m.window → exec (.markExpiry input) s = .next s)
            ∧ (k.pt + m.window ≤ s.tb.pt →
                exec (.markExpiry input) s
                  = .next (raise .markExpired (s.setMark input { m with fifo := rest.filter fun x => decide (x.pt ≠ k.pt) }))))

/-- R114 and R115: MARK_CONFIG's refusals and clamps, the record it leaves, and the marks that the new pairing window makes expire at once, in a
stall too (log entry 39). -/
def Obligations.MarkConfigSetsTheInput : Prop :=
  ∀ (s : State) (input en edge filter holdoff decimation window : Nat), s.resetLow = false →
    let cmd := Instr.markConfig input en edge filter holdoff decimation window
    (7 < input ∨ 1 < en ∨ 2 < edge ∨ 3 < filter → exec cmd s = .next (Spec.no s .badValue))
      ∧ (input ≤ 7 → en ≤ 1 → filter ≤ 3 → ∀ sel, (edge, sel) ∈ [(0, EdgeSelect.rising), (1, .falling), (2, .both)] →
          let m := s.mark input
          let h := min 500 holdoff
          let d := max 1 (min 4096 decimation)
          let w := max 100 (min 10000 window)
          let st := if en = 1 then MarkState.armed else .disabled
          let kept := m.fifo.filter fun k => decide ((s.tb.pt : Int) < k.pt + (w * 54000 : Nat))
          let t := s.setMark input
            { enable := decide (en = 1), state := st, edge := sel, filter := filter, holdoff := h * 54000, decimation := d
              window := w * 54000, counter := 0, remaining := 0, nextNumber := m.nextNumber, fifo := kept }
          exec cmd s
            = .next (Spec.ok (if kept.length < m.fifo.length then raise .markExpired t else t)
                [.code input, .code en, .code edge, .code filter, .word h, .word w, .short d, .code st.code, .code kept.length]))

/-! ### Device tracking (Chapter 7) -/

/-- R117 and R118: DEVICE_REGISTER's refusals in their order, and the record it puts in the lowest-numbered free slot, with every numeric
setting clamped or, sent with every bit set, at its default. -/
def Obligations.DeviceRegisterTakesTheLowestSlot : Prop :=
  ∀ (s : State) (kind lane input position : Nat) (outlier offsetTol driftTol : Int) (span silence policy line : Nat) (width : Int),
    s.resetLow = false →
    let cmd := Instr.deviceRegister kind lane input position outlier offsetTol driftTol span silence policy line width
    let fits := kind ≤ 3 ∧ lane ≤ 15 ∧ (input ≤ 7 ∨ input = 255) ∧ position ≤ 2 ∧ (policy = 0 ∨ policy = 1 ∧ line ≤ 7)
    let taken := ∃ n < 32, ∃ d, s.device n = some d ∧ d.input = some input
    (¬ fits → exec cmd s = .next (Spec.no s .badValue))
      ∧ (fits → (∀ n < 32, (s.device n).isSome = true) → exec cmd s = .next (Spec.no s .full))
      ∧ (∀ n < 32, fits → s.device n = none → (∀ j < n, (s.device j).isSome = true) →
          ((s.lane lane).state = .free → exec cmd s = .next (Spec.no s .noSuch))
            ∧ ((s.lane lane).state ≠ .free → input ≤ 7 → taken → exec cmd s = .next (Spec.no s .inUse))
            ∧ ((s.lane lane).state ≠ .free → (input = 255 ∨ ¬ taken) →
                ∀ k, (kind, k) ∈ [(0, DeviceKind.camera), (1, .recorder), (2, .slate), (3, .suite)] →
                let mid := decide (position = 1 ∨ position = 2 ∧ kind = 2)
                let ol := if outlier = -1 then 27000 else max 54 (min 1080000 outlier)
                let ot := if offsetTol = -1 then 54000 else max 0 (min 54000000 offsetTol)
                let dt := if driftTol = -1 then 10000 else max 0 (min 2000000 driftTol)
                let sp := if span = 4294967295 then 10 else max 1 (min 600 span)
                let si := if silence = 4294967295 then 120 else max 1 (min 3600 silence)
                let w := if width = -1 then 54000 else max 54 (min 54000000 width)
                exec cmd s
                  = .next (Spec.ok
                      (s.setDevice n (some
                        { kind := k, lane := lane, input := if input = 255 then none else some input, midFrame := mid, outlierLimit := ol
                          offsetTol := ot, driftTol := dt, span := sp, silence := si
                          rejam := if policy = 1 then some (line, w.toNat) else none, state := .unseen, top := 0, ring := [], offsetEst := none
                          driftEst := none, outliers := 0, silenceLeft := none, cue := none }))
                      [.code n, .code kind, .code lane, .code input, .code (if mid then 1 else 0), .ticks ol, .ticks ot, .ppb dt, .word sp,
                        .word si, .code policy, .code (if policy = 1 then line else 0), .ticks (if policy = 1 then w else 0), .code 0])))

namespace Sys2Proof.Spec

/-- A slot made FREE by a cancellation: it leaves the due list, and a pulse it holds ends (R119, R157). -/
def freed (s : State) (slot : Nat) (q : Cue) : State :=
  { s with
    cues := s.cues.put slot none
    dues := s.dues.filter fun x => decide (x ≠ slot)
    lines := match q.line with
      | none => s.lines
      | some j =>
        if (s.line j).holder = some slot then s.lines.put j { s.line j with level := (s.line j).idle, holder := none } else s.lines }

/-- A device with its ring emptied (R122) and everything that goes with it. -/
def emptied (d : Device) : Device :=
  { d with
    ring := [], top := 0, offsetEst := none, driftEst := none, outliers := 0, silenceLeft := none, state := .unseen, cue := none }

end Sys2Proof.Spec

/-- R117, R119 and R120: DEVICE_REMOVE frees the device's slot and DEVICE_RESET_TRACK empties its record, each cancelling the cue it owns
with no message back; a device whose silence has run out becomes LOST with DEVICE_LOST, not before and not in a stall (R133); and the
refusals of the requests that name a device. -/
def Obligations.DevicesAreRemovedResetAndLost : Prop :=
  ∀ (s : State) (n : Nat), s.resetLow = false →
    (31 < n → exec (.deviceRemove n) s = .next (Spec.no s .badValue) ∧ exec (.deviceResetTrack n) s = .next (Spec.no s .badValue)
        ∧ exec (.deviceQuery n) s = .next (Spec.no s .badValue) ∧ exec (.deviceRing n) s = .next (Spec.no s .badValue))
      ∧ (n ≤ 31 → s.device n = none →
          exec (.deviceRemove n) s = .next (Spec.no s .noSuch) ∧ exec (.deviceResetTrack n) s = .next (Spec.no s .noSuch))
      ∧ (∀ d, n ≤ 31 → s.device n = some d →
          let cancelled := match d.cue with
            | none => s
            | some slot => match s.cue slot with
              | none => s
              | some q => Spec.freed s slot q
          exec (.deviceRemove n) s
              = .next (Spec.ok (cancelled.setDevice n none) [.code d.state.code, .code (d.cue.getD 255)])
            ∧ exec (.deviceResetTrack n) s
              = .next (Spec.ok (cancelled.setDevice n (some (Spec.emptied d))) [.code d.state.code, .code 0])
            ∧ ((d.state = .acquiring ∨ d.state = .tracking ∨ d.state = .outOfTolerance) → d.silenceLeft = some 0 →
                s.src.selected.state = .running →
                exec (.deviceSilenceExpiry n) s
                  = .next (raise .deviceLost (s.setDevice n (some { d with state := .lost, silenceLeft := none }))))
            ∧ (d.state = .unseen ∨ d.state = .rejamPending ∨ d.state = .lost ∨ d.silenceLeft ≠ some 0 ∨ s.src.selected.state ≠ .running →
                exec (.deviceSilenceExpiry n) s = .next s))

/-- R123, R124 and R110: DEVICE_REPORT's refusals in their order, and the reports taken with IGNORED, which remove their mark and change
nothing else. -/
def Obligations.ReportsAreRefusedOrIgnored : Prop :=
  ∀ (s : State) (n : Nat) (lab : Label) (kind capture pt : Nat), s.resetLow = false →
    let cmd := Instr.deviceReport n lab kind capture pt
    (31 < n → exec cmd s = .next (Spec.no s .badValue))
      ∧ (n ≤ 31 → s.device n = none → exec cmd s = .next (Spec.no s .noSuch))
      ∧ (∀ d, n ≤ 31 → s.device n = some d →
          let l := s.lane d.lane
          (2 < kind ∨ kind < 2 ∧ d.input = none ∨ kind = 2 ∧ (d.input ≠ none ∧ d.kind ≠ .suite ∨ s.tb.pt < pt) →
              exec cmd s = .next (Spec.no s .badValue))
            ∧ ((kind < 2 ∧ d.input ≠ none ∨ kind = 2 ∧ (d.input = none ∨ d.kind = .suite) ∧ pt ≤ s.tb.pt) →
                (l.wellFormed lab = false → exec cmd s = .next (Spec.no s .badValue))
                  ∧ (l.wellFormed lab = true → s.tb.set = false → exec cmd s = .next (Spec.no s .timeUnset))
                  ∧ (l.wellFormed lab = true → s.tb.set = true → l.state = .waiting → exec cmd s = .next (Spec.no s .wrongState))
                  ∧ (l.wellFormed lab = true → s.tb.set = true → l.state ≠ .waiting →
                      let ignored := fun t : Int => d.state = .rejamPending ∨ ∃ o ∈ d.ring.head?, t ≤ o.pt
                      (∀ i, d.input = some i → kind = 0 → (s.mark i).fifo = [] → exec cmd s = .next (Spec.no s .noMark))
                        ∧ (∀ i, d.input = some i → kind = 1 → (∀ k ∈ (s.mark i).fifo, k.number ≠ capture) →
                            exec cmd s = .next (Spec.no s .noMark))
                        ∧ (∀ i k before after, d.input = some i → (s.mark i).fifo = before ++ k :: after →
                            (kind = 0 ∧ before = [] ∨ kind = 1 ∧ k.number = capture ∧ ∀ x ∈ before, x.number ≠ capture) → ignored k.pt →
                            exec cmd s
                              = .next { s.setMark i { s.mark i with fifo := before ++ after } with
                                  answer := some ⟨.ignored, [.short k.number, .ptSigned k.pt, .code d.state.code]⟩ })
                        ∧ (kind = 2 → ignored pt →
                            exec cmd s
                              = .next { s with answer := some ⟨.ignored, [.short 0, .ptSigned 0, .code d.state.code]⟩ }))))

/-- R110 and R125 to R132: a report that is filed, with an explicit instant or from a mark, which is claimed. A label that does not exist and a PT
outside the range refuse it unmasked, the mark staying, and take their defaults masked. `o` is the offset and `r` the residual. The observation
goes into the ring; an outlier is tagged and counted, and the third one re-bases the ring with DEVICE_STEP; the estimates, the state and the
silence follow, and DEVICE_TOLERANCE on the way out of tolerance. Under REJAM a device out of tolerance gets the lowest FREE cue slot, with a
PULSE at the first label of ff 0 at or after two frames on, or CUE_TABLE_FULL is raised. That the reply's tag is the one after the re-tagging is
log entry 24, and that a presence indicator stands before what it speaks of log entry 9. -/
def Obligations.ReportsBecomeObservations : Prop :=
  ∀ (s s' : State) (n : Nat) (d : Device) (lab : Label) (kind capture pt : Nat) (t : Int) (source : Option Nat), s.resetLow = false → n ≤ 31 →
    s.device n = some d →
    let l := s.lane d.lane
    let cmd := Instr.deviceReport n lab kind capture pt
    Spec.instant s s' d kind capture pt t source → l.wellFormed lab = true → s.tb.set = true → l.state.mapped = true → l.rateOk →
    l.mapping.isSome = true → d.state ≠ .rejamPending → (∀ o ∈ d.ring.head?, o.pt < t) →
    let inv := !l.labelExists lab
    let taken := if inv then Spec.raised l lab else lab
    (inv = true → l.masks.invalid = false → exec cmd s = .next (Spec.no (Spec.stuck s d.lane .invalid) .invalidLabel))
      ∧ (inv = false ∨ l.masks.invalid = true →
          ∃ x : Int, (∃ j : Int, x = Spec.place l (l.map.k0 + ((l.countOf taken : Int) - l.map.c0) % l.nDay + j * l.nDay) 0)
            ∧ -(l.nDay * l.period : Int) ≤ 2 * (x - t) ∧ 2 * (x - t) < l.nDay * l.period
            ∧ (let far := decide (x < 0 ∨ 2 ^ 64 ≤ x)
              let sticking := fun u : State => Spec.stuckIf far (Spec.stuckIf inv u d.lane .invalid) d.lane .range
              (far = true → l.masks.range = false → exec cmd s = .next (Spec.no (sticking s) .range))
                ∧ (far = false ∨ l.masks.range = true →
                    let expected : Int := Spec.clampPt x + if d.midFrame then (l.period / 2 : Nat) else 0
                    let o := t - expected
                    let predicted := match d.driftEst, Spec.newest d.ring with
                      | some v, some b => some (b.offset + Spec.away (v * (t - b.pt)) 1000000000)
                      | _, _ => d.offsetEst
                    let r := predicted.map fun p => o - p
                    let out := r.any fun v => decide (d.outlierLimit < |v|)
                    let rebased := out && decide (2 ≤ d.outliers)
                    let obs : Obs :=
                      { pt := t, count := l.countOf taken, offset := o, residual := r, tag := if out then .outlier else .valid, source := source }
                    let ring := (obs :: d.ring).take 8
                    let filed :=
                      if rebased then ring.mapIdx (fun i (q : Obs) => { q with tag := if i < 3 then Tag.valid else .empty }) else ring
                    let drift := match Spec.oldest filed, Spec.newest filed with
                      | some old, some new =>
                        if (d.span * 54000000 : Nat) ≤ new.pt - old.pt then
                          some (max (-2000000) (min 2000000 (Spec.away ((new.offset - old.offset) * 1000000000) (new.pt - old.pt))))
                        else none
                      | _, _ => none
                    let e := { d with
                      top := (d.top + 7) % 8, ring := filed, outliers := if out then (if rebased then 0 else d.outliers + 1) else 0
                      offsetEst := (Spec.newest filed).map Obs.offset, driftEst := drift, silenceLeft := some (d.silence * 54000000) }
                    let st := match drift with
                      | none => DeviceState.acquiring
                      | some v => if d.offsetTol < |e.offsetEst.getD 0| ∨ d.driftTol < |v| then .outOfTolerance else .tracking
                    let u := (sticking s').setDevice n (some { e with state := st })
                    let v := if rebased then raise .deviceStep u else u
                    let t' := if st = .outOfTolerance ∧ d.state ≠ .outOfTolerance then raise .deviceTolerance v else v
                    let fields := fun (st : DeviceState) (cue : Option Nat) =>
                      [Fld.short (source.getD 0), .ptSigned t, .label taken, .pt expected, .ticks o, Spec.bit r.isSome, .ticks (r.getD 0),
                        .code (if out && !rebased then 1 else 0), .code e.outliers, Spec.bit e.offsetEst.isSome, .ticks (e.offsetEst.getD 0),
                        Spec.bit drift.isSome, .ppb (drift.getD 0), .code st.code, .code (cue.getD 255), Spec.bit inv, Spec.bit far]
                    (st ≠ .outOfTolerance ∨ d.rejam = none ∨ d.cue.isSome = true → exec cmd s = .next (Spec.ok t' (fields st d.cue)))
                      ∧ (st = .outOfTolerance → d.rejam.isSome = true → d.cue = none → (∀ slot < 64, (s.cue slot).isSome = true) →
                          exec cmd s = .next (Spec.ok (raise .cueTableFull t') (fields st none)))
                      ∧ (∀ slot < 64, ∀ line w, ∀ j : Int, st = .outOfTolerance → d.rejam = some (line, w) → d.cue = none →
                          s.cue slot = none → slot ∉ s.dues → (∀ i < slot, (s.cue i).isSome = true) →
                          let first : Int := ((s.tb.pt : Int) - l.phase) / l.period + 2
                          first ≤ j → j < first + 2 * l.base + 2 → (l.labelOf (Spec.count l j)).ff = 0 →
                          (∀ i, first ≤ i → i < j → (l.labelOf (Spec.count l i)).ff ≠ 0) → Spec.place l j 0 < 2 ^ 64 →
                          let due := (Spec.place l j 0).toNat
                          let q : Cue :=
                            { state := .suspended, owner := some n, anchor := .label d.lane (l.labelOf (Spec.count l j)) 0
                              current := some (Spec.count l j), action := .pulse, width := w, line := some line, flagOnFire := true
                              repeatCount := 0, left := some 1, interval := 0, drop := true, staged := none, due := none, remaining := 0 }
                          let asked := t'.setDevice n (some { e with state := .rejamPending, silenceLeft := none, cue := some slot })
                          (l.state = .running →
                              exec cmd s
                                = .next (Spec.ok
                                    { asked.setCue slot (some { q with state := .waiting, due := some due }) with dues := Spec.enter s slot due }
                                    (fields .rejamPending (some slot))))
                            ∧ (l.state = .held ∨ l.state = .releasing →
                                exec cmd s = .next (Spec.ok (asked.setCue slot (some q)) (fields .rejamPending (some slot))))))))

/-! ### Cues and output lines (Chapter 8) -/

namespace Sys2Proof.Spec

/-- The action of a code of 0 to 4 (R140). -/
def action (n : Nat) (a : Action) : Prop := (n, a) ∈ [(0, Action.none), (1, .high), (2, .low), (3, .toggle), (4, .pulse)]

end Sys2Proof.Spec

/-- R141 to R145 and R152: CUE_ADD's refusals in their order, and the cue it sets up with its reply. An ABSOLUTE cue is SUSPENDED while the time is
UNSET, WAITING at its PT, or late. A LABEL cue, with wildcards or without, and a SAMPLE cue are SUSPENDED where the time is UNSET or the lane is
WAITING, make their conversion and stay SUSPENDED where the lane is HELD or RELEASING, and are WAITING or late on a RUNNING lane; INVALID,
INEXACT and RANGE refuse them unmasked, and are reported masked. A late cue under DROP leaves its slot FREE with CUE_DROPPED, and under
FIRE_LATE fires within the request with CUE_LATE. The model's choices here: the presence indicator before the due PT (log entry 9), a current
anchor kept while suspended on a held lane (16), the zeros of a FREE slot in the reply (18), the label taken held in the anchor (20), BAD_VALUE
for a sub-frame offset below 0 (21), and indicators that count only the first due's conversion (35). -/
def Obligations.CueAddSetsUpACue : Prop :=
  ∀ (s : State) (slot kind pt lane : Nat) (lab : Label) (off pos : Int) (act : Nat) (width : Int) (line flag count interval late : Nat),
    s.resetLow = false →
    let cmd := Instr.cueAdd slot kind pt lane lab off pos act width line flag count interval late
    let l := s.lane lane
    let any := lab.hh = 255 ∨ lab.mm = 255 ∨ lab.ss = 255
    let fits := kind ≤ 2 ∧ act ≤ 4 ∧ (act = 0 ∨ line ≤ 7) ∧ flag ≤ 1 ∧ late ≤ 1 ∧ (kind = 0 ∨ lane ≤ 15)
      ∧ (kind ≠ 1 ∨ (lab.hh < 24 ∨ lab.hh = 255) ∧ (lab.mm < 60 ∨ lab.mm = 255) ∧ (lab.ss < 60 ∨ lab.ss = 255) ∧ lab.ff ≠ 255)
      ∧ (kind ≠ 2 ∨ -2 ^ 47 ≤ pos ∧ pos < 2 ^ 47) ∧ (kind = 1 ∧ any → interval = 0) ∧ (¬ (kind = 1 ∧ any) → count = 0 ∨ interval ≠ 0)
    let onLane := (kind = 1 → lab.ff < l.base ∧ lab.ind = (if l.df then 1 else 0) ∧ 0 ≤ off ∧ off < l.period) ∧ (kind = 2 → l.sound.isSome = true)
    (63 < slot ∨ ¬ fits → exec cmd s = .next (Spec.no s .badValue))
      ∧ (slot ≤ 63 → fits → (s.cue slot).isSome = true → exec cmd s = .next (Spec.no s .inUse))
      ∧ (slot ≤ 63 → fits → s.cue slot = none → kind ≠ 0 → l.state = .free → exec cmd s = .next (Spec.no s .noSuch))
      ∧ (slot ≤ 63 → fits → s.cue slot = none → kind ≠ 0 → l.state ≠ .free → ¬ onLane → exec cmd s = .next (Spec.no s .badValue))
      ∧ (slot ≤ 63 → fits → s.cue slot = none → slot ∉ s.dues → (∀ j < 8, (s.line j).holder ≠ some slot) → ∀ a, Spec.action act a →
          let w := (max 54 (min 54000000 width)).toNat
          let q : Cue :=
            { state := .suspended, owner := none, anchor := .absolute pt, current := none, action := a, width := w
              line := if act = 0 then none else some line, flagOnFire := decide (flag = 1), repeatCount := count
              left := if count = 65535 then none else some (count + 1), interval := interval, drop := decide (late = 1), staged := none
              due := none, remaining := 0 }
          -- what becomes of the cue `c` with the due `x` on a line of time that runs, the conditions `met` found on the way to `u`
          let timed := fun (u : State) (c : Cue) (x : Nat) (met : Conds) =>
            let waiting := { c with state := .waiting, due := some x }
            (s.tb.pt ≤ x →
                exec cmd s
                  = .next (Spec.ok { u.setCue slot (some waiting) with dues := Spec.enter s slot x }
                      (Spec.added s slot (some waiting) w c.interval met)))
              ∧ (x < s.tb.pt → late = 1 →
                  exec cmd s = .next (Spec.ok (raise .cueDropped u) (Spec.added s slot none w c.interval met)))
              ∧ (x < s.tb.pt → late = 0 →
                  ∃ t, exec cmd s = .next (Spec.ok t (Spec.added s slot (t.cue slot) w c.interval met))
                    ∧ Spec.fires (raise .cueLate u) t slot waiting x)
          (kind = 0 → s.tb.set = false →
              exec cmd s = .next (Spec.ok (s.setCue slot (some q)) (Spec.added s slot (some q) w interval .none)))
            ∧ (kind = 0 → s.tb.set = true → timed s q pt .none)
            ∧ (kind ≠ 0 → onLane → l.rateOk → l.state ≠ .free →
                let missing := decide (kind = 1 ∧ lab.mm ≠ 255 ∧ l.labelExists lab = false)
                let taken := if missing then Spec.raised l lab else lab
                let c := { q with
                  anchor := if kind = 1 then .label lane taken off else .sample lane pos
                  current := if kind = 2 then some pos else if any then none else some (l.countOf taken : Int)
                  interval := if kind = 1 then min interval (l.nDay - 1) else interval }
                let s₁ := Spec.stuckIf missing s lane .invalid
                (missing = true → l.masks.invalid = false → exec cmd s = .next (Spec.no s₁ .invalidLabel))
                  ∧ (missing = false ∨ l.masks.invalid = true →
                      (s.tb.set = false ∨ l.state = .waiting →
                          exec cmd s
                            = .next (Spec.ok (s₁.setCue slot (some c)) (Spec.added s slot (some c) w c.interval ⟨missing, false, false⟩)))
                        ∧ (∀ x cur, s.tb.set = true → l.state.mapped = true → l.mapping.isSome = true →
                            Spec.due s c.anchor c.current s.tb.pt x cur →
                            let part := !Spec.whole s c.anchor c.current x
                            let far := decide (x < 0 ∨ 2 ^ 64 ≤ x)
                            let s₂ := Spec.stuckIf part s₁ lane .inexact
                            let s₃ := Spec.stuckIf far s₂ lane .range
                            (part = true → l.masks.inexact = false → exec cmd s = .next (Spec.no s₂ .inexact))
                              ∧ (part = false ∨ l.masks.inexact = true → far = true → l.masks.range = false →
                                  exec cmd s = .next (Spec.no s₃ .range))
                              ∧ (part = false ∨ l.masks.inexact = true → far = false ∨ l.masks.range = true →
                                  let met : Conds := ⟨missing, far, part⟩
                                  let found := { c with current := cur }
                                  (l.state = .held ∨ l.state = .releasing →
                                      exec cmd s
                                        = .next (Spec.ok (s₃.setCue slot (some found)) (Spec.added s slot (some found) w c.interval met)))
                                    ∧ (l.state = .running → timed s₃ found (Spec.clampPt x).toNat met))))))

/-- R141, R142 and R145 to R148: the head of the due list fires when PT has reached its due, in WAITING or PULSING, with the block staged for it.
Its running pulse ends before another action; the action acts on the line; and after the last firing the slot is FREE, or PULSING for a PULSE,
while an earlier one enters the list again at the next due of its series, the dues that lie before PT passed over. Nothing fires before its due, on
an empty list or in a stall. The model's choices here: the current anchor left by an ending series (log entry 26), the end of a class (27), and a
SAMPLE due compared with PT before any clamp (33). -/
def Obligations.CuesFireAtTheirDues : Prop :=
  ∀ s : State, s.resetLow = false →
    (s.dues = [] ∨ s.src.selected.state ≠ .running → exec .cueDue s = .next s)
      ∧ (∀ (slot : Nat) (rest : List Nat) (c : Cue) (d : Nat), s.dues = slot :: rest → slot ∉ rest → slot < 64 → s.cue slot = some c → c.due = some d →
          (s.tb.pt < d → exec .cueDue s = .next s)
            ∧ (d ≤ s.tb.pt → s.src.selected.state = .running → c.state = .waiting ∨ c.state = .pulsing →
                ∃ t, exec .cueDue s = .next t ∧ Spec.fires { s with dues := rest } t slot c d))

/-- R134, R149 and R157: the end of a pulse and the cancelling of a cue, for a host's cue and for a device's, whose device is told. -/
def Obligations.PulsesEndAndCuesAreCancelled : Prop :=
  ∀ (s : State) (slot : Nat) (c : Cue), s.resetLow = false → slot < 64 → s.cue slot = some c →
    let idle := match c.line with
      | none => s
      | some j =>
        if (s.line j).holder = some slot then s.setLine j { s.line j with level := (s.line j).idle, holder := none } else s
    (c.state ≠ .pulsing ∨ 0 < c.remaining ∨ s.src.selected.state ≠ .running → exec (.cuePulseEnd slot) s = .next s)
      ∧ (c.state = .pulsing → c.remaining = 0 → s.src.selected.state = .running →
          (c.left ≠ some 0 → exec (.cuePulseEnd slot) s = .next (idle.setCue slot (some { c with state := .waiting })))
            ∧ (c.left = some 0 → c.owner = none → exec (.cuePulseEnd slot) s = .next (idle.setCue slot none))
            ∧ (∀ n d, c.left = some 0 → c.owner = some n → s.device n = some d →
                exec (.cuePulseEnd slot) s = .next ((idle.setCue slot none).setDevice n (some (Spec.emptied d)))))
      ∧ (c.owner = none → exec (.cueCancel slot) s = .next (Spec.ok (Spec.freed s slot c) [.code c.state.code, .code 255]))
      ∧ (∀ n d, c.owner = some n → s.device n = some d →
          (d.ring ≠ [] →
              exec (.cueCancel slot) s
                = .next (Spec.ok
                    (raise .deviceTolerance ((Spec.freed s slot c).setDevice n
                      (some { d with state := .outOfTolerance, silenceLeft := some (d.silence * 54000000), cue := none })))
                    [.code c.state.code, .code n]))
            ∧ (d.ring = [] →
                exec (.cueCancel slot) s
                  = .next (Spec.ok ((Spec.freed s slot c).setDevice n (some { d with state := .unseen, silenceLeft := none, cue := none }))
                      [.code c.state.code, .code n])))

/-- R150, R157 and R158: OUTPUT_SET writes the idle level and then drives; CUE_MODIFY's refusals in their order and the block it stages;
CUE_CANCEL of a FREE slot. -/
def Obligations.OutputsAreSetAndCuesModified : Prop :=
  ∀ (s : State) (slot line idle drive act interval : Nat) (width : Int), s.resetLow = false →
    (7 < line ∨ 2 < idle ∨ 3 < drive → exec (.outputSet line idle drive) s = .next (Spec.no s .badValue))
      ∧ (line ≤ 7 → idle ≤ 2 → drive ≤ 3 →
          let l := s.line line
          let rest := if idle = 2 then l.idle else decide (idle = 1)
          let l' : Line := if drive = 0 then { l with idle := rest }
            else { idle := rest, level := if drive = 3 then rest else decide (drive = 2), holder := none }
          exec (.outputSet line idle drive) s
            = .next (Spec.ok (s.setLine line l')
                [.code (if l'.idle then 1 else 0), .code (if l'.level then 1 else 0), .code (l'.holder.getD 255)]))
      ∧ (63 < slot ∨ 4 < act → exec (.cueModify slot width interval act) s = .next (Spec.no s .badValue))
      ∧ (63 < slot → exec (.cueCancel slot) s = .next (Spec.no s .badValue))
      ∧ (slot ≤ 63 → act ≤ 4 → s.cue slot = none →
          exec (.cueModify slot width interval act) s = .next (Spec.no s .wrongState)
            ∧ exec (.cueCancel slot) s = .next (Spec.ok s [.code 0, .code 0]))
      ∧ (∀ c a, slot ≤ 63 → Spec.action act a → s.cue slot = some c →
          let wild := c.anchor.wildcard = true
          let bad := (act ≠ 0 ∧ c.line = none) ∨ (wild ∧ interval ≠ 0) ∨ (¬ wild ∧ c.repeatCount ≠ 0 ∧ interval = 0)
          (c.owner.isSome = true → exec (.cueModify slot width interval act) s = .next (Spec.no s .inUse))
            ∧ (c.owner = none → c.state = .pulsing → c.left = some 0 →
                exec (.cueModify slot width interval act) s = .next (Spec.no s .wrongState))
            ∧ (c.owner = none → (c.state ≠ .pulsing ∨ c.left ≠ some 0) →
                (bad → exec (.cueModify slot width interval act) s = .next (Spec.no s .badValue))
                  ∧ (¬ bad →
                      let w := (max 54 (min 54000000 width)).toNat
                      let i := match c.anchor with
                        | .label lane _ _ => min interval ((s.lane lane).nDay - 1)
                        | .absolute _ | .sample _ _ => interval
                      exec (.cueModify slot width interval act) s
                        = .next (Spec.ok (s.setCue slot (some { c with staged := some ⟨w, i, a⟩ }))
                            [.ticks w, .interval i, .code act, .code c.state.code]))))

/-! ### What every step keeps -/

/-- Every block's laws hold after reset: the premise of the statements below. -/
def Obligations.ResetStateIsLawful : Prop := State.reset.lawful

/-- R162, R170, R171 and R184: from any lawful state, after any step, no clear flag is marked seen, the Link Port's frames and replies hold
together, and a part held in reset holds its power-on values. -/
def Obligations.StepsKeepFlagsAndLink : Prop :=
  ∀ s t : State, s.lawful → step s = .next t → t.attnOk ∧ t.linkOk ∧ t.resetOk

/-- Chapters 2 to 4: from any lawful state, after any step, the selected source is enabled and has not failed; the loop terms and the
applied trim lie in their ranges, at the calibration trim in FREERUN and at the integral term in HOLDOVER; the counts and settings lie in
theirs; the discipline state agrees with the enable and the reference view, and the view with the Reference Monitor. -/
def Obligations.StepsKeepClockAndDiscipline : Prop :=
  ∀ s t : State, s.lawful → step s = .next t →
    t.sourcesOk ∧ t.trimOk ∧ t.tb.countsOk ∧ t.tb.rangesOk ∧ t.tb.stateOk ∧ t.refOk

/-- Chapter 5 and R99: from any lawful state, after any step, every lane record holds together, its label counts within the labelled day;
and every device, cue and frame-pulse output that names a lane names one that is not FREE. -/
def Obligations.StepsKeepLanesAndTheirNames : Prop :=
  ∀ s t : State, s.lawful → step s = .next t → t.lanesOk ∧ t.namesOk

/-- R100, R103 to R109: from any lawful state, after any step, the frame-pulse outputs and the mark inputs hold together; each mark input
holds at most four pending marks, with distinct numbers. -/
def Obligations.StepsKeepPulsesAndMarks : Prop :=
  ∀ s t : State, s.lawful → step s = .next t → t.fpsOk ∧ t.marksOk

/-- R117 to R134 and R156: from any lawful state, after any step, every device record holds together, its ring in order of instant; no mark
input is named by two devices; and devices and the cues they own name each other. -/
def Obligations.StepsKeepDevicesAndTheirCues : Prop :=
  ∀ s t : State, s.lawful → step s = .next t → t.devicesOk ∧ t.ownersOk

/-- R140, R145 and R148: from any lawful state, after any step, the due list holds each cue that has a due once, in nondecreasing due PT;
the holder of a line is a PULSING cue on that line; and every cue holds together. -/
def Obligations.StepsKeepCuesAndDues : Prop :=
  ∀ s t : State, s.lawful → step s = .next t → t.duesOk ∧ t.linesOk ∧ t.cuesOk

/-- R60: from any lawful state, after any step, while the time is UNSET no lane runs, no mark or observation is held and no cue has a due. -/
def Obligations.StepsKeepUnsetTimeQuiet : Prop :=
  ∀ s t : State, s.lawful → step s = .next t → t.unsetOk
end

