-- ==== Sys2Proof/Laws/Bank.lean ====
section
/-! SUPPORT. Banks: a record read after a write, and what a bank holds after an update. -/

namespace Sys2Proof.Bank

variable {α : Type} {n : Nat}

/-- Reading the record just written gives what was written. -/
@[simp] theorem get_put_same (b : Bank α n) {i : Nat} (h : i < n) (a d : α) : (b.put i a).get i d = a := by
  have : i < b.list.length := by rw [b.size]; exact h
  simp [get, put, List.getD_eq_getElem?_getD, this]

/-- A write leaves every other record as it was. -/
theorem get_put_ne (b : Bank α n) {i j : Nat} (h : i ≠ j) (a d : α) : (b.put i a).get j d = b.get j d := by
  simp [get, put, List.getD_eq_getElem?_getD, h]

/-- A write to a record that the bank does not have changes nothing. -/
theorem put_out (b : Bank α n) {i : Nat} (h : n ≤ i) (a : α) : b.put i a = b := by
  have : b.list.length ≤ i := by rw [b.size]; exact h
  cases b with
  | mk l hl => simp only [put, List.set_eq_of_length_le this]

/-- What a bank holds after a write: what was written, or what it held. -/
theorem mem_put {b : Bank α n} {i : Nat} {a x : α} (h : x ∈ (b.put i a).list) : x = a ∨ x ∈ b.list :=
  (List.mem_or_eq_of_mem_set h).symm

/-- What a mapped bank holds. -/
theorem mem_map {b : Bank α n} {f : α → α} {x : α} : x ∈ (b.map f).list ↔ ∃ y ∈ b.list, f y = x := by
  simp [Bank.map]

/-- What a filled bank holds. -/
theorem mem_fill {a x : α} (h : x ∈ (fill n a).list) : x = a := List.eq_of_mem_replicate h

/-- A record that the bank has is among its records. -/
theorem get_mem (b : Bank α n) {i : Nat} (h : i < n) (d : α) : b.get i d ∈ b.list := by
  have : i < b.list.length := by rw [b.size]; exact h
  simp [get, List.getD_eq_getElem?_getD, this]

/-- A record that the bank does not have reads as the default. -/
theorem get_out (b : Bank α n) {i : Nat} (h : n ≤ i) (d : α) : b.get i d = d := by
  have : b.list.length ≤ i := by rw [b.size]; exact h
  simp [get, List.getD_eq_getElem?_getD, this]

/-- A record of a mapped bank. -/
theorem get_map (b : Bank α n) (f : α → α) {i : Nat} (h : i < n) (d : α) : (b.map f).get i d = f (b.get i d) := by
  have : i < b.list.length := by rw [b.size]; exact h
  simp [get, Bank.map, List.getD_eq_getElem?_getD, this]

/-- A record of a filled bank. -/
theorem get_fill (a : α) {i : Nat} (h : i < n) (d : α) : (fill n a).get i d = a := by
  simp [get, fill, List.getD_eq_getElem?_getD, h]

/-- Every record of a bank is read at some number. -/
theorem exists_get {b : Bank α n} {x : α} (h : x ∈ b.list) (d : α) : ∃ i, i < n ∧ b.get i d = x := by
  obtain ⟨i, hi, rfl⟩ := List.getElem_of_mem h
  exact ⟨i, by rw [← b.size]; exact hi, by simp [get, List.getD_eq_getElem?_getD, hi]⟩

end Sys2Proof.Bank
end

