-- ==== Sys2Proof/Laws/State.lean ====
section
/-! SUPPORT. One lemma for each field of the state after each update of the state, all true by unfolding. -/

namespace Sys2Proof.Machine

variable (s : State)

@[simp] theorem State.setLane_resetLow (i : Nat) (x : Lane) : (s.setLane i x).resetLow = s.resetLow := rfl
@[simp] theorem State.setLane_src (i : Nat) (x : Lane) : (s.setLane i x).src = s.src := rfl
@[simp] theorem State.setLane_ref (i : Nat) (x : Lane) : (s.setLane i x).ref = s.ref := rfl
@[simp] theorem State.setLane_tb (i : Nat) (x : Lane) : (s.setLane i x).tb = s.tb := rfl
@[simp] theorem State.setLane_lanes (i : Nat) (x : Lane) : (s.setLane i x).lanes = s.lanes.put i x := rfl
@[simp] theorem State.setLane_fps (i : Nat) (x : Lane) : (s.setLane i x).fps = s.fps := rfl
@[simp] theorem State.setLane_marks (i : Nat) (x : Lane) : (s.setLane i x).marks = s.marks := rfl
@[simp] theorem State.setLane_devices (i : Nat) (x : Lane) : (s.setLane i x).devices = s.devices := rfl
@[simp] theorem State.setLane_cues (i : Nat) (x : Lane) : (s.setLane i x).cues = s.cues := rfl
@[simp] theorem State.setLane_dues (i : Nat) (x : Lane) : (s.setLane i x).dues = s.dues := rfl
@[simp] theorem State.setLane_lines (i : Nat) (x : Lane) : (s.setLane i x).lines = s.lines := rfl
@[simp] theorem State.setLane_attn (i : Nat) (x : Lane) : (s.setLane i x).attn = s.attn := rfl
@[simp] theorem State.setLane_link (i : Nat) (x : Lane) : (s.setLane i x).link = s.link := rfl
@[simp] theorem State.setLane_answer (i : Nat) (x : Lane) : (s.setLane i x).answer = s.answer := rfl
@[simp] theorem State.setLane_draws (i : Nat) (x : Lane) : (s.setLane i x).draws = s.draws := rfl
@[simp] theorem State.setLane_pending (i : Nat) (x : Lane) : (s.setLane i x).pending = s.pending := rfl

@[simp] theorem State.setFp_resetLow (i : Nat) (x : FramePulse) : (s.setFp i x).resetLow = s.resetLow := rfl
@[simp] theorem State.setFp_src (i : Nat) (x : FramePulse) : (s.setFp i x).src = s.src := rfl
@[simp] theorem State.setFp_ref (i : Nat) (x : FramePulse) : (s.setFp i x).ref = s.ref := rfl
@[simp] theorem State.setFp_tb (i : Nat) (x : FramePulse) : (s.setFp i x).tb = s.tb := rfl
@[simp] theorem State.setFp_lanes (i : Nat) (x : FramePulse) : (s.setFp i x).lanes = s.lanes := rfl
@[simp] theorem State.setFp_fps (i : Nat) (x : FramePulse) : (s.setFp i x).fps = s.fps.put i x := rfl
@[simp] theorem State.setFp_marks (i : Nat) (x : FramePulse) : (s.setFp i x).marks = s.marks := rfl
@[simp] theorem State.setFp_devices (i : Nat) (x : FramePulse) : (s.setFp i x).devices = s.devices := rfl
@[simp] theorem State.setFp_cues (i : Nat) (x : FramePulse) : (s.setFp i x).cues = s.cues := rfl
@[simp] theorem State.setFp_dues (i : Nat) (x : FramePulse) : (s.setFp i x).dues = s.dues := rfl
@[simp] theorem State.setFp_lines (i : Nat) (x : FramePulse) : (s.setFp i x).lines = s.lines := rfl
@[simp] theorem State.setFp_attn (i : Nat) (x : FramePulse) : (s.setFp i x).attn = s.attn := rfl
@[simp] theorem State.setFp_link (i : Nat) (x : FramePulse) : (s.setFp i x).link = s.link := rfl
@[simp] theorem State.setFp_answer (i : Nat) (x : FramePulse) : (s.setFp i x).answer = s.answer := rfl
@[simp] theorem State.setFp_draws (i : Nat) (x : FramePulse) : (s.setFp i x).draws = s.draws := rfl
@[simp] theorem State.setFp_pending (i : Nat) (x : FramePulse) : (s.setFp i x).pending = s.pending := rfl

@[simp] theorem State.setMark_resetLow (i : Nat) (x : MarkInput) : (s.setMark i x).resetLow = s.resetLow := rfl
@[simp] theorem State.setMark_src (i : Nat) (x : MarkInput) : (s.setMark i x).src = s.src := rfl
@[simp] theorem State.setMark_ref (i : Nat) (x : MarkInput) : (s.setMark i x).ref = s.ref := rfl
@[simp] theorem State.setMark_tb (i : Nat) (x : MarkInput) : (s.setMark i x).tb = s.tb := rfl
@[simp] theorem State.setMark_lanes (i : Nat) (x : MarkInput) : (s.setMark i x).lanes = s.lanes := rfl
@[simp] theorem State.setMark_fps (i : Nat) (x : MarkInput) : (s.setMark i x).fps = s.fps := rfl
@[simp] theorem State.setMark_marks (i : Nat) (x : MarkInput) : (s.setMark i x).marks = s.marks.put i x := rfl
@[simp] theorem State.setMark_devices (i : Nat) (x : MarkInput) : (s.setMark i x).devices = s.devices := rfl
@[simp] theorem State.setMark_cues (i : Nat) (x : MarkInput) : (s.setMark i x).cues = s.cues := rfl
@[simp] theorem State.setMark_dues (i : Nat) (x : MarkInput) : (s.setMark i x).dues = s.dues := rfl
@[simp] theorem State.setMark_lines (i : Nat) (x : MarkInput) : (s.setMark i x).lines = s.lines := rfl
@[simp] theorem State.setMark_attn (i : Nat) (x : MarkInput) : (s.setMark i x).attn = s.attn := rfl
@[simp] theorem State.setMark_link (i : Nat) (x : MarkInput) : (s.setMark i x).link = s.link := rfl
@[simp] theorem State.setMark_answer (i : Nat) (x : MarkInput) : (s.setMark i x).answer = s.answer := rfl
@[simp] theorem State.setMark_draws (i : Nat) (x : MarkInput) : (s.setMark i x).draws = s.draws := rfl
@[simp] theorem State.setMark_pending (i : Nat) (x : MarkInput) : (s.setMark i x).pending = s.pending := rfl

@[simp] theorem State.setDevice_resetLow (i : Nat) (x : Option Device) : (s.setDevice i x).resetLow = s.resetLow := rfl
@[simp] theorem State.setDevice_src (i : Nat) (x : Option Device) : (s.setDevice i x).src = s.src := rfl
@[simp] theorem State.setDevice_ref (i : Nat) (x : Option Device) : (s.setDevice i x).ref = s.ref := rfl
@[simp] theorem State.setDevice_tb (i : Nat) (x : Option Device) : (s.setDevice i x).tb = s.tb := rfl
@[simp] theorem State.setDevice_lanes (i : Nat) (x : Option Device) : (s.setDevice i x).lanes = s.lanes := rfl
@[simp] theorem State.setDevice_fps (i : Nat) (x : Option Device) : (s.setDevice i x).fps = s.fps := rfl
@[simp] theorem State.setDevice_marks (i : Nat) (x : Option Device) : (s.setDevice i x).marks = s.marks := rfl
@[simp] theorem State.setDevice_devices (i : Nat) (x : Option Device) : (s.setDevice i x).devices = s.devices.put i x := rfl
@[simp] theorem State.setDevice_cues (i : Nat) (x : Option Device) : (s.setDevice i x).cues = s.cues := rfl
@[simp] theorem State.setDevice_dues (i : Nat) (x : Option Device) : (s.setDevice i x).dues = s.dues := rfl
@[simp] theorem State.setDevice_lines (i : Nat) (x : Option Device) : (s.setDevice i x).lines = s.lines := rfl
@[simp] theorem State.setDevice_attn (i : Nat) (x : Option Device) : (s.setDevice i x).attn = s.attn := rfl
@[simp] theorem State.setDevice_link (i : Nat) (x : Option Device) : (s.setDevice i x).link = s.link := rfl
@[simp] theorem State.setDevice_answer (i : Nat) (x : Option Device) : (s.setDevice i x).answer = s.answer := rfl
@[simp] theorem State.setDevice_draws (i : Nat) (x : Option Device) : (s.setDevice i x).draws = s.draws := rfl
@[simp] theorem State.setDevice_pending (i : Nat) (x : Option Device) : (s.setDevice i x).pending = s.pending := rfl

@[simp] theorem State.setCue_resetLow (i : Nat) (x : Option Cue) : (s.setCue i x).resetLow = s.resetLow := rfl
@[simp] theorem State.setCue_src (i : Nat) (x : Option Cue) : (s.setCue i x).src = s.src := rfl
@[simp] theorem State.setCue_ref (i : Nat) (x : Option Cue) : (s.setCue i x).ref = s.ref := rfl
@[simp] theorem State.setCue_tb (i : Nat) (x : Option Cue) : (s.setCue i x).tb = s.tb := rfl
@[simp] theorem State.setCue_lanes (i : Nat) (x : Option Cue) : (s.setCue i x).lanes = s.lanes := rfl
@[simp] theorem State.setCue_fps (i : Nat) (x : Option Cue) : (s.setCue i x).fps = s.fps := rfl
@[simp] theorem State.setCue_marks (i : Nat) (x : Option Cue) : (s.setCue i x).marks = s.marks := rfl
@[simp] theorem State.setCue_devices (i : Nat) (x : Option Cue) : (s.setCue i x).devices = s.devices := rfl
@[simp] theorem State.setCue_cues (i : Nat) (x : Option Cue) : (s.setCue i x).cues = s.cues.put i x := rfl
@[simp] theorem State.setCue_dues (i : Nat) (x : Option Cue) : (s.setCue i x).dues = s.dues := rfl
@[simp] theorem State.setCue_lines (i : Nat) (x : Option Cue) : (s.setCue i x).lines = s.lines := rfl
@[simp] theorem State.setCue_attn (i : Nat) (x : Option Cue) : (s.setCue i x).attn = s.attn := rfl
@[simp] theorem State.setCue_link (i : Nat) (x : Option Cue) : (s.setCue i x).link = s.link := rfl
@[simp] theorem State.setCue_answer (i : Nat) (x : Option Cue) : (s.setCue i x).answer = s.answer := rfl
@[simp] theorem State.setCue_draws (i : Nat) (x : Option Cue) : (s.setCue i x).draws = s.draws := rfl
@[simp] theorem State.setCue_pending (i : Nat) (x : Option Cue) : (s.setCue i x).pending = s.pending := rfl

@[simp] theorem State.setLine_resetLow (i : Nat) (x : Line) : (s.setLine i x).resetLow = s.resetLow := rfl
@[simp] theorem State.setLine_src (i : Nat) (x : Line) : (s.setLine i x).src = s.src := rfl
@[simp] theorem State.setLine_ref (i : Nat) (x : Line) : (s.setLine i x).ref = s.ref := rfl
@[simp] theorem State.setLine_tb (i : Nat) (x : Line) : (s.setLine i x).tb = s.tb := rfl
@[simp] theorem State.setLine_lanes (i : Nat) (x : Line) : (s.setLine i x).lanes = s.lanes := rfl
@[simp] theorem State.setLine_fps (i : Nat) (x : Line) : (s.setLine i x).fps = s.fps := rfl
@[simp] theorem State.setLine_marks (i : Nat) (x : Line) : (s.setLine i x).marks = s.marks := rfl
@[simp] theorem State.setLine_devices (i : Nat) (x : Line) : (s.setLine i x).devices = s.devices := rfl
@[simp] theorem State.setLine_cues (i : Nat) (x : Line) : (s.setLine i x).cues = s.cues := rfl
@[simp] theorem State.setLine_dues (i : Nat) (x : Line) : (s.setLine i x).dues = s.dues := rfl
@[simp] theorem State.setLine_lines (i : Nat) (x : Line) : (s.setLine i x).lines = s.lines.put i x := rfl
@[simp] theorem State.setLine_attn (i : Nat) (x : Line) : (s.setLine i x).attn = s.attn := rfl
@[simp] theorem State.setLine_link (i : Nat) (x : Line) : (s.setLine i x).link = s.link := rfl
@[simp] theorem State.setLine_answer (i : Nat) (x : Line) : (s.setLine i x).answer = s.answer := rfl
@[simp] theorem State.setLine_draws (i : Nat) (x : Line) : (s.setLine i x).draws = s.draws := rfl
@[simp] theorem State.setLine_pending (i : Nat) (x : Line) : (s.setLine i x).pending = s.pending := rfl

@[simp] theorem State.setDues_resetLow (x : List Nat) : (s.setDues x).resetLow = s.resetLow := rfl
@[simp] theorem State.setDues_src (x : List Nat) : (s.setDues x).src = s.src := rfl
@[simp] theorem State.setDues_ref (x : List Nat) : (s.setDues x).ref = s.ref := rfl
@[simp] theorem State.setDues_tb (x : List Nat) : (s.setDues x).tb = s.tb := rfl
@[simp] theorem State.setDues_lanes (x : List Nat) : (s.setDues x).lanes = s.lanes := rfl
@[simp] theorem State.setDues_fps (x : List Nat) : (s.setDues x).fps = s.fps := rfl
@[simp] theorem State.setDues_marks (x : List Nat) : (s.setDues x).marks = s.marks := rfl
@[simp] theorem State.setDues_devices (x : List Nat) : (s.setDues x).devices = s.devices := rfl
@[simp] theorem State.setDues_cues (x : List Nat) : (s.setDues x).cues = s.cues := rfl
@[simp] theorem State.setDues_dues (x : List Nat) : (s.setDues x).dues = x := rfl
@[simp] theorem State.setDues_lines (x : List Nat) : (s.setDues x).lines = s.lines := rfl
@[simp] theorem State.setDues_attn (x : List Nat) : (s.setDues x).attn = s.attn := rfl
@[simp] theorem State.setDues_link (x : List Nat) : (s.setDues x).link = s.link := rfl
@[simp] theorem State.setDues_answer (x : List Nat) : (s.setDues x).answer = s.answer := rfl
@[simp] theorem State.setDues_draws (x : List Nat) : (s.setDues x).draws = s.draws := rfl
@[simp] theorem State.setDues_pending (x : List Nat) : (s.setDues x).pending = s.pending := rfl

@[simp] theorem State.setTb_resetLow (x : Timebase) : (s.setTb x).resetLow = s.resetLow := rfl
@[simp] theorem State.setTb_src (x : Timebase) : (s.setTb x).src = s.src := rfl
@[simp] theorem State.setTb_ref (x : Timebase) : (s.setTb x).ref = s.ref := rfl
@[simp] theorem State.setTb_tb (x : Timebase) : (s.setTb x).tb = x := rfl
@[simp] theorem State.setTb_lanes (x : Timebase) : (s.setTb x).lanes = s.lanes := rfl
@[simp] theorem State.setTb_fps (x : Timebase) : (s.setTb x).fps = s.fps := rfl
@[simp] theorem State.setTb_marks (x : Timebase) : (s.setTb x).marks = s.marks := rfl
@[simp] theorem State.setTb_devices (x : Timebase) : (s.setTb x).devices = s.devices := rfl
@[simp] theorem State.setTb_cues (x : Timebase) : (s.setTb x).cues = s.cues := rfl
@[simp] theorem State.setTb_dues (x : Timebase) : (s.setTb x).dues = s.dues := rfl
@[simp] theorem State.setTb_lines (x : Timebase) : (s.setTb x).lines = s.lines := rfl
@[simp] theorem State.setTb_attn (x : Timebase) : (s.setTb x).attn = s.attn := rfl
@[simp] theorem State.setTb_link (x : Timebase) : (s.setTb x).link = s.link := rfl
@[simp] theorem State.setTb_answer (x : Timebase) : (s.setTb x).answer = s.answer := rfl
@[simp] theorem State.setTb_draws (x : Timebase) : (s.setTb x).draws = s.draws := rfl
@[simp] theorem State.setTb_pending (x : Timebase) : (s.setTb x).pending = s.pending := rfl

@[simp] theorem State.setRef_resetLow (x : RefMon) : (s.setRef x).resetLow = s.resetLow := rfl
@[simp] theorem State.setRef_src (x : RefMon) : (s.setRef x).src = s.src := rfl
@[simp] theorem State.setRef_ref (x : RefMon) : (s.setRef x).ref = x := rfl
@[simp] theorem State.setRef_tb (x : RefMon) : (s.setRef x).tb = s.tb := rfl
@[simp] theorem State.setRef_lanes (x : RefMon) : (s.setRef x).lanes = s.lanes := rfl
@[simp] theorem State.setRef_fps (x : RefMon) : (s.setRef x).fps = s.fps := rfl
@[simp] theorem State.setRef_marks (x : RefMon) : (s.setRef x).marks = s.marks := rfl
@[simp] theorem State.setRef_devices (x : RefMon) : (s.setRef x).devices = s.devices := rfl
@[simp] theorem State.setRef_cues (x : RefMon) : (s.setRef x).cues = s.cues := rfl
@[simp] theorem State.setRef_dues (x : RefMon) : (s.setRef x).dues = s.dues := rfl
@[simp] theorem State.setRef_lines (x : RefMon) : (s.setRef x).lines = s.lines := rfl
@[simp] theorem State.setRef_attn (x : RefMon) : (s.setRef x).attn = s.attn := rfl
@[simp] theorem State.setRef_link (x : RefMon) : (s.setRef x).link = s.link := rfl
@[simp] theorem State.setRef_answer (x : RefMon) : (s.setRef x).answer = s.answer := rfl
@[simp] theorem State.setRef_draws (x : RefMon) : (s.setRef x).draws = s.draws := rfl
@[simp] theorem State.setRef_pending (x : RefMon) : (s.setRef x).pending = s.pending := rfl

@[simp] theorem State.setSrc_resetLow (x : Sources) : (s.setSrc x).resetLow = s.resetLow := rfl
@[simp] theorem State.setSrc_src (x : Sources) : (s.setSrc x).src = x := rfl
@[simp] theorem State.setSrc_ref (x : Sources) : (s.setSrc x).ref = s.ref := rfl
@[simp] theorem State.setSrc_tb (x : Sources) : (s.setSrc x).tb = s.tb := rfl
@[simp] theorem State.setSrc_lanes (x : Sources) : (s.setSrc x).lanes = s.lanes := rfl
@[simp] theorem State.setSrc_fps (x : Sources) : (s.setSrc x).fps = s.fps := rfl
@[simp] theorem State.setSrc_marks (x : Sources) : (s.setSrc x).marks = s.marks := rfl
@[simp] theorem State.setSrc_devices (x : Sources) : (s.setSrc x).devices = s.devices := rfl
@[simp] theorem State.setSrc_cues (x : Sources) : (s.setSrc x).cues = s.cues := rfl
@[simp] theorem State.setSrc_dues (x : Sources) : (s.setSrc x).dues = s.dues := rfl
@[simp] theorem State.setSrc_lines (x : Sources) : (s.setSrc x).lines = s.lines := rfl
@[simp] theorem State.setSrc_attn (x : Sources) : (s.setSrc x).attn = s.attn := rfl
@[simp] theorem State.setSrc_link (x : Sources) : (s.setSrc x).link = s.link := rfl
@[simp] theorem State.setSrc_answer (x : Sources) : (s.setSrc x).answer = s.answer := rfl
@[simp] theorem State.setSrc_draws (x : Sources) : (s.setSrc x).draws = s.draws := rfl
@[simp] theorem State.setSrc_pending (x : Sources) : (s.setSrc x).pending = s.pending := rfl

@[simp] theorem State.setLink_resetLow (x : Link) : (s.setLink x).resetLow = s.resetLow := rfl
@[simp] theorem State.setLink_src (x : Link) : (s.setLink x).src = s.src := rfl
@[simp] theorem State.setLink_ref (x : Link) : (s.setLink x).ref = s.ref := rfl
@[simp] theorem State.setLink_tb (x : Link) : (s.setLink x).tb = s.tb := rfl
@[simp] theorem State.setLink_lanes (x : Link) : (s.setLink x).lanes = s.lanes := rfl
@[simp] theorem State.setLink_fps (x : Link) : (s.setLink x).fps = s.fps := rfl
@[simp] theorem State.setLink_marks (x : Link) : (s.setLink x).marks = s.marks := rfl
@[simp] theorem State.setLink_devices (x : Link) : (s.setLink x).devices = s.devices := rfl
@[simp] theorem State.setLink_cues (x : Link) : (s.setLink x).cues = s.cues := rfl
@[simp] theorem State.setLink_dues (x : Link) : (s.setLink x).dues = s.dues := rfl
@[simp] theorem State.setLink_lines (x : Link) : (s.setLink x).lines = s.lines := rfl
@[simp] theorem State.setLink_attn (x : Link) : (s.setLink x).attn = s.attn := rfl
@[simp] theorem State.setLink_link (x : Link) : (s.setLink x).link = x := rfl
@[simp] theorem State.setLink_answer (x : Link) : (s.setLink x).answer = s.answer := rfl
@[simp] theorem State.setLink_draws (x : Link) : (s.setLink x).draws = s.draws := rfl
@[simp] theorem State.setLink_pending (x : Link) : (s.setLink x).pending = s.pending := rfl

@[simp] theorem State.draw_resetLow : (s.draw).resetLow = s.resetLow := rfl
@[simp] theorem State.draw_src : (s.draw).src = s.src := rfl
@[simp] theorem State.draw_ref : (s.draw).ref = s.ref := rfl
@[simp] theorem State.draw_tb : (s.draw).tb = s.tb := rfl
@[simp] theorem State.draw_lanes : (s.draw).lanes = s.lanes := rfl
@[simp] theorem State.draw_fps : (s.draw).fps = s.fps := rfl
@[simp] theorem State.draw_marks : (s.draw).marks = s.marks := rfl
@[simp] theorem State.draw_devices : (s.draw).devices = s.devices := rfl
@[simp] theorem State.draw_cues : (s.draw).cues = s.cues := rfl
@[simp] theorem State.draw_dues : (s.draw).dues = s.dues := rfl
@[simp] theorem State.draw_lines : (s.draw).lines = s.lines := rfl
@[simp] theorem State.draw_attn : (s.draw).attn = s.attn := rfl
@[simp] theorem State.draw_link : (s.draw).link = s.link := rfl
@[simp] theorem State.draw_answer : (s.draw).answer = s.answer := rfl
@[simp] theorem State.draw_draws : (s.draw).draws = s.draws + 1 := rfl
@[simp] theorem State.draw_pending : (s.draw).pending = s.pending := rfl

@[simp] theorem State.mapFlags_resetLow (x : Nat → FlagRec → FlagRec) : (s.mapFlags x).resetLow = s.resetLow := rfl
@[simp] theorem State.mapFlags_src (x : Nat → FlagRec → FlagRec) : (s.mapFlags x).src = s.src := rfl
@[simp] theorem State.mapFlags_ref (x : Nat → FlagRec → FlagRec) : (s.mapFlags x).ref = s.ref := rfl
@[simp] theorem State.mapFlags_tb (x : Nat → FlagRec → FlagRec) : (s.mapFlags x).tb = s.tb := rfl
@[simp] theorem State.mapFlags_lanes (x : Nat → FlagRec → FlagRec) : (s.mapFlags x).lanes = s.lanes := rfl
@[simp] theorem State.mapFlags_fps (x : Nat → FlagRec → FlagRec) : (s.mapFlags x).fps = s.fps := rfl
@[simp] theorem State.mapFlags_marks (x : Nat → FlagRec → FlagRec) : (s.mapFlags x).marks = s.marks := rfl
@[simp] theorem State.mapFlags_devices (x : Nat → FlagRec → FlagRec) : (s.mapFlags x).devices = s.devices := rfl
@[simp] theorem State.mapFlags_cues (x : Nat → FlagRec → FlagRec) : (s.mapFlags x).cues = s.cues := rfl
@[simp] theorem State.mapFlags_dues (x : Nat → FlagRec → FlagRec) : (s.mapFlags x).dues = s.dues := rfl
@[simp] theorem State.mapFlags_lines (x : Nat → FlagRec → FlagRec) : (s.mapFlags x).lines = s.lines := rfl
@[simp] theorem State.mapFlags_attn (x : Nat → FlagRec → FlagRec) : (s.mapFlags x).attn = s.attn.mapIdx fun i f => x (i + 1) f := rfl
@[simp] theorem State.mapFlags_link (x : Nat → FlagRec → FlagRec) : (s.mapFlags x).link = s.link := rfl
@[simp] theorem State.mapFlags_answer (x : Nat → FlagRec → FlagRec) : (s.mapFlags x).answer = s.answer := rfl
@[simp] theorem State.mapFlags_draws (x : Nat → FlagRec → FlagRec) : (s.mapFlags x).draws = s.draws := rfl
@[simp] theorem State.mapFlags_pending (x : Nat → FlagRec → FlagRec) : (s.mapFlags x).pending = s.pending := rfl

@[simp] theorem raise_resetLow (k : Flag) : (raise k s).resetLow = s.resetLow := rfl
@[simp] theorem raise_src (k : Flag) : (raise k s).src = s.src := rfl
@[simp] theorem raise_ref (k : Flag) : (raise k s).ref = s.ref := rfl
@[simp] theorem raise_tb (k : Flag) : (raise k s).tb = s.tb := rfl
@[simp] theorem raise_lanes (k : Flag) : (raise k s).lanes = s.lanes := rfl
@[simp] theorem raise_fps (k : Flag) : (raise k s).fps = s.fps := rfl
@[simp] theorem raise_marks (k : Flag) : (raise k s).marks = s.marks := rfl
@[simp] theorem raise_devices (k : Flag) : (raise k s).devices = s.devices := rfl
@[simp] theorem raise_cues (k : Flag) : (raise k s).cues = s.cues := rfl
@[simp] theorem raise_dues (k : Flag) : (raise k s).dues = s.dues := rfl
@[simp] theorem raise_lines (k : Flag) : (raise k s).lines = s.lines := rfl
@[simp] theorem raise_attn (k : Flag) : (raise k s).attn = s.attn.put (k.num - 1) { s.flag k with set := true, seen := false } := rfl
@[simp] theorem raise_link (k : Flag) : (raise k s).link = s.link := rfl
@[simp] theorem raise_answer (k : Flag) : (raise k s).answer = s.answer := rfl
@[simp] theorem raise_draws (k : Flag) : (raise k s).draws = s.draws := rfl
@[simp] theorem raise_pending (k : Flag) : (raise k s).pending = s.pending := rfl

@[simp] theorem raiseIf_resetLow (b : Bool) (k : Flag) : (raiseIf b k s).resetLow = s.resetLow := by unfold raiseIf; split <;> rfl
@[simp] theorem raiseIf_src (b : Bool) (k : Flag) : (raiseIf b k s).src = s.src := by unfold raiseIf; split <;> rfl
@[simp] theorem raiseIf_ref (b : Bool) (k : Flag) : (raiseIf b k s).ref = s.ref := by unfold raiseIf; split <;> rfl
@[simp] theorem raiseIf_tb (b : Bool) (k : Flag) : (raiseIf b k s).tb = s.tb := by unfold raiseIf; split <;> rfl
@[simp] theorem raiseIf_lanes (b : Bool) (k : Flag) : (raiseIf b k s).lanes = s.lanes := by unfold raiseIf; split <;> rfl
@[simp] theorem raiseIf_fps (b : Bool) (k : Flag) : (raiseIf b k s).fps = s.fps := by unfold raiseIf; split <;> rfl
@[simp] theorem raiseIf_marks (b : Bool) (k : Flag) : (raiseIf b k s).marks = s.marks := by unfold raiseIf; split <;> rfl
@[simp] theorem raiseIf_devices (b : Bool) (k : Flag) : (raiseIf b k s).devices = s.devices := by unfold raiseIf; split <;> rfl
@[simp] theorem raiseIf_cues (b : Bool) (k : Flag) : (raiseIf b k s).cues = s.cues := by unfold raiseIf; split <;> rfl
@[simp] theorem raiseIf_dues (b : Bool) (k : Flag) : (raiseIf b k s).dues = s.dues := by unfold raiseIf; split <;> rfl
@[simp] theorem raiseIf_lines (b : Bool) (k : Flag) : (raiseIf b k s).lines = s.lines := by unfold raiseIf; split <;> rfl
@[simp] theorem raiseIf_link (b : Bool) (k : Flag) : (raiseIf b k s).link = s.link := by unfold raiseIf; split <;> rfl
@[simp] theorem raiseIf_answer (b : Bool) (k : Flag) : (raiseIf b k s).answer = s.answer := by unfold raiseIf; split <;> rfl
@[simp] theorem raiseIf_draws (b : Bool) (k : Flag) : (raiseIf b k s).draws = s.draws := by unfold raiseIf; split <;> rfl
@[simp] theorem raiseIf_pending (b : Bool) (k : Flag) : (raiseIf b k s).pending = s.pending := by unfold raiseIf; split <;> rfl

/-- A raising that does not happen changes nothing. -/
@[simp] theorem raiseIf_false (k : Flag) : raiseIf false k s = s := rfl

/-- A raising that happens raises. -/
@[simp] theorem raiseIf_true (k : Flag) : raiseIf true k s = raise k s := rfl

end Sys2Proof.Machine
end

