-- ==== Sys2Proof/Laws/Touch.lean ====
section
/-! SUPPORT. What the shared operations can touch, once for each: a cue operation leaves the sources, the reference, the Timebase, the
outputs, the marks and the link alone; a lane operation touches the frame-pulse outputs besides. -/

namespace Sys2Proof.Machine

/-- `t` differs from `s` at most in the lanes, devices, cues, due list, output lines and attention flags. -/
def CueTouch (s t : State) : Prop :=
  t = { s with lanes := t.lanes, devices := t.devices, cues := t.cues, dues := t.dues, lines := t.lines, attn := t.attn }

namespace CueTouch

variable {s t u : State}

theorem refl (s : State) : CueTouch s s := rfl

theorem trans (h : CueTouch s t) (k : CueTouch t u) : CueTouch s u := by
  unfold CueTouch at *
  rw [h] at k
  exact k

theorem foldl {α : Type} {f : State → α → State} (h : ∀ s a, CueTouch s (f s a)) (l : List α) (s : State) :
    CueTouch s (l.foldl f s) := by
  induction l generalizing s with
  | nil => exact refl s
  | cons a l ih => exact (h s a).trans (ih _)

/-- The fields that stay. -/
theorem keeps (h : CueTouch s t) : t.resetLow = s.resetLow ∧ t.src = s.src ∧ t.ref = s.ref ∧ t.tb = s.tb ∧ t.fps = s.fps ∧ t.marks = s.marks
    ∧ t.link = s.link ∧ t.answer = s.answer ∧ t.draws = s.draws ∧ t.pending = s.pending := by
  rw [h]; exact ⟨rfl, rfl, rfl, rfl, rfl, rfl, rfl, rfl, rfl, rfl⟩

end CueTouch

open CueTouch

variable (s : State)

theorem raise_touch (f : Flag) : CueTouch s (raise f s) := rfl

theorem raiseIf_touch (b : Bool) (f : Flag) : CueTouch s (raiseIf b f s) := by cases b <;> rfl

theorem stick_touch (i : Nat) (m : Conds) : CueTouch s (stick i m s) := by
  unfold stick
  exact trans (t := s.setLane i _) rfl (raiseIf_touch _ _ _)

theorem stickOpt_touch (i : Option Nat) (m : Conds) : CueTouch s (stickOpt i m s) := by
  cases i with
  | none => exact refl s
  | some i => exact stick_touch s i m

theorem leaveDues_touch (slot : Nat) : CueTouch s (leaveDues slot s) := rfl

theorem enterDues_touch (slot : Nat) (c : Cue) (due : Nat) : CueTouch s (enterDues slot c due s) := rfl

theorem releaseLine_touch (slot : Nat) (line : Option Nat) : CueTouch s (releaseLine slot line s) := by
  cases line with
  | none => exact refl s
  | some j => unfold releaseLine; simp only; split <;> rfl

theorem driveLine_touch (slot : Nat) (c : Cue) : CueTouch s (driveLine slot c s) := by
  unfold driveLine
  split
  · exact refl s
  · split <;> rfl

theorem freeSlot_touch (slot : Nat) : CueTouch s (freeSlot slot s) := by
  unfold freeSlot
  split
  · exact refl s
  · exact ((leaveDues_touch s slot).trans (releaseLine_touch _ _ _)).trans rfl

theorem deviceCueGone_touch (n : Nat) (done : Bool) : CueTouch s (deviceCueGone n done s) := by
  unfold deviceCueGone
  split
  · exact refl s
  · exact trans (t := s.setDevice n _) rfl (raiseIf_touch _ _ _)

theorem reportGone_touch (owner : Option Nat) (done : Bool) : CueTouch s (reportGone owner done s) := by
  cases owner with
  | none => exact refl s
  | some n => exact deviceCueGone_touch s n done

theorem dropCue_touch (slot : Nat) : CueTouch s (dropCue slot s) := by
  unfold dropCue
  split
  · exact refl s
  · exact ((freeSlot_touch s slot).trans (raise_touch _ _)).trans (reportGone_touch _ _ _)

theorem lastFiring_touch (slot : Nat) (c : Cue) : CueTouch s (lastFiring slot c s) := by
  unfold lastFiring
  split <;> rfl

theorem fireActs_touch (slot : Nat) (c : Cue) : CueTouch s (fireActs slot c s) := by
  unfold fireActs
  refine trans (leaveDues_touch s slot) (trans ?_ (raiseIf_touch _ _ _))
  refine trans ?_ (driveLine_touch _ _ _)
  split
  · exact releaseLine_touch _ _ _
  · exact refl _

theorem fireCue_touch (slot : Nat) : CueTouch s (fireCue slot s) := by
  unfold fireCue
  split
  · exact refl s
  · rename_i c _
    refine trans (fireActs_touch s slot c) ?_
    dsimp only
    split
    · refine trans (stickOpt_touch (fireActs slot c s) c.fired.anchor.lane?
        ((fireActs slot c s).seriesNext c.fired c.fired.left (c.due.getD s.tb.pt) (fireActs slot c s).tb.pt).next.met) ?_
      split
      · exact enterDues_touch _ _ _ _
      · exact lastFiring_touch _ _ _
      · exact trans (raise_touch _ _) (lastFiring_touch _ _ _)
    · exact lastFiring_touch _ _ _

theorem lateCue_touch (slot : Nat) : CueTouch s (lateCue slot s) := by
  unfold lateCue
  split
  · exact refl s
  · split
    · exact dropCue_touch s slot
    · exact trans (raise_touch _ _) (fireCue_touch _ slot)

theorem setDue_touch (slot : Nat) (c : Cue) (due : Nat) : CueTouch s (setDue slot c due s) := by
  unfold setDue
  refine trans (enterDues_touch s slot c due) ?_
  simp only
  split
  · exact lateCue_touch _ slot
  · exact refl _

theorem handleLate_touch : CueTouch s (handleLate s) := CueTouch.foldl (fun s i => lateCue_touch s i) _ s

theorem cuesStep_touch (a : Int) : CueTouch s (cuesStep a s) := by
  unfold cuesStep
  split
  · exact handleLate_touch s
  · exact refl s

theorem startAbsolute_touch (slot : Nat) : CueTouch s (startAbsolute slot s) := by
  unfold startAbsolute
  split
  · exact refl s
  · split
    · exact setDue_touch _ _ _ _
    · exact refl s

theorem cuesTimeSet_touch : CueTouch s (cuesTimeSet s) := CueTouch.foldl (fun s i => startAbsolute_touch s i) _ s

theorem recomputeCue_touch (slot : Nat) : CueTouch s (recomputeCue slot s) := by
  unfold recomputeCue
  split
  · exact refl s
  · rename_i c _
    refine trans (leaveDues_touch s slot) (trans (stickOpt_touch (leaveDues slot s) c.anchor.lane?
      ((leaveDues slot s).dueAgainst c.anchor c.current (leaveDues slot s).tb.pt).met) ?_)
    dsimp only
    split
    · exact setDue_touch _ _ _ _
    · exact dropCue_touch _ _

theorem recomputeLane_touch (i : Nat) : CueTouch s (recomputeLane i s) := CueTouch.foldl (fun s i => recomputeCue_touch s i) _ s

theorem cuesDiscontinuity_touch : CueTouch s (cuesDiscontinuity s) :=
  trans (CueTouch.foldl (fun s i => recomputeCue_touch s i) _ s) (handleLate_touch _)

theorem suspendCue_touch (slot : Nat) : CueTouch s (suspendCue slot s) := by
  unfold suspendCue
  split
  · exact refl s
  · split
    · exact refl s
    · refine trans (leaveDues_touch s slot) ?_
      simp only
      split
      · exact trans (releaseLine_touch _ _ _) rfl
      · rfl

theorem suspendLane_touch (i : Nat) : CueTouch s (suspendLane i s) := CueTouch.foldl (fun s i => suspendCue_touch s i) _ s

theorem admitCue_touch (slot : Nat) (c : Cue) : CueTouch s (admitCue slot c s).1 := by
  unfold admitCue
  refine trans (stickOpt_touch s c.anchor.lane? (s.firstDue c).met) ?_
  dsimp only
  split
  · exact refl _
  · rfl
  · exact setDue_touch _ _ _ _

theorem devicesShift_touch (i : Nat) (shift : Int) : CueTouch s (devicesShift i shift s) := rfl

theorem mappingChange_touch (i : Nat) (delta : Int) : CueTouch s (mappingChange i delta s) :=
  trans (devicesShift_touch s i _) (recomputeLane_touch _ i)

/-! ### Lane operations -/

/-- `t` differs from `s` at most as a cue operation leaves it, and in the frame-pulse outputs and the draw counter. -/
def LaneTouch (s t : State) : Prop :=
  t = { s with
    lanes := t.lanes, devices := t.devices, cues := t.cues, dues := t.dues, lines := t.lines, attn := t.attn, fps := t.fps, draws := t.draws }

namespace LaneTouch

variable {s t u : State}

theorem refl (s : State) : LaneTouch s s := rfl

theorem trans (h : LaneTouch s t) (k : LaneTouch t u) : LaneTouch s u := by
  unfold LaneTouch at *
  rw [h] at k
  exact k

theorem ofCue (h : CueTouch s t) : LaneTouch s t := by
  unfold CueTouch at h
  unfold LaneTouch
  rw [h]

theorem foldl {α : Type} {f : State → α → State} (h : ∀ s a, LaneTouch s (f s a)) (l : List α) (s : State) :
    LaneTouch s (l.foldl f s) := by
  induction l generalizing s with
  | nil => exact refl s
  | cons a l ih => exact (h s a).trans (ih _)

/-- The fields that stay. -/
theorem keeps (h : LaneTouch s t) : t.resetLow = s.resetLow ∧ t.src = s.src ∧ t.ref = s.ref ∧ t.tb = s.tb ∧ t.marks = s.marks
    ∧ t.link = s.link ∧ t.answer = s.answer ∧ t.pending = s.pending := by
  rw [h]; exact ⟨rfl, rfl, rfl, rfl, rfl, rfl, rfl, rfl⟩

end LaneTouch

theorem latchAndPulse_touch (i : Nat) (k : Int) : LaneTouch s (latchAndPulse i k s) := rfl

theorem takeBoundary_touch (i : Nat) (k : Int) : LaneTouch s (takeBoundary i k s) := by
  unfold takeBoundary
  dsimp only
  split
  · exact LaneTouch.refl s
  · exact LaneTouch.trans (t := raise .laneReleased (latchAndPulse i k (s.setLane i ((s.lane i).started k)))) rfl
      (LaneTouch.ofCue (recomputeLane_touch _ i))
  · exact latchAndPulse_touch s i k
  · exact latchAndPulse_touch s i k
  · exact LaneTouch.trans (t := raise .laneReleased (latchAndPulse i k (s.setLane i ((s.lane i).released k)))) rfl
      (LaneTouch.ofCue (mappingChange_touch _ i _))

theorem catchUp_touch (i : Nat) : LaneTouch s (catchUp i s) := by
  unfold catchUp
  split
  · exact takeBoundary_touch s i _
  · exact LaneTouch.refl s

theorem lanesStep_touch (a : Int) : LaneTouch s (lanesStep a s) := by
  unfold lanesStep
  split
  · simp only
    have h := LaneTouch.foldl (fun s i => catchUp_touch s i) ((s.passedLanes fun st => !st.announces)
      ++ freeOrder s.draws (s.passedLanes LaneState.announces)) s
    split
    · exact h.trans rfl
    · exact h
  · exact LaneTouch.refl s

theorem unordered_touch {f g : State → State} (hf : ∀ s, LaneTouch s (f s)) (hg : ∀ s, LaneTouch s (g s)) :
    LaneTouch s (unordered f g s) := by
  unfold unordered
  split
  · exact (hf s).trans (hg _)
  · split
    · exact ((hf s).trans (hg _)).trans rfl
    · exact ((hg s).trans (hf _)).trans rfl

theorem discontinuity_touch : LaneTouch s { discontinuity s with marks := s.marks } := by
  unfold discontinuity
  have h := unordered_touch (lanesDiscontinuity (marksDiscontinuity (raise .timeDiscontinuity s))) (f := devicesDiscontinuity)
    (g := cuesDiscontinuity) (fun _ => rfl) (fun s => LaneTouch.ofCue (cuesDiscontinuity_touch s))
  unfold LaneTouch at h ⊢
  rw [h]
  rfl

theorem firstTimeSet_touch : LaneTouch { s with tb := { s.tb with set := true } } (firstTimeSet s) :=
  LaneTouch.trans (t := lanesTimeSet (s.setTb { s.tb with set := true })) rfl (LaneTouch.ofCue (cuesTimeSet_touch _))

/-- A step of PT touches the Timebase's PT, the Reference Monitor's times, the marks and the observations, and what the lanes and cues do. -/
theorem stepPt_spec (a : Int) : LaneTouch (devicesStep a (marksStep a ((raise .ptStep (s.putPt (s.tb.pt + a))).setRef (s.ref.moved a))))
    (stepPt a s) := by
  unfold stepPt
  have h : (raise .ptStep (s.putPt (s.tb.pt + a))).ref = s.ref := by
    unfold State.putPt; split <;> rfl
  simp only [h]
  exact unordered_touch _ (fun s => lanesStep_touch s a) (fun s => LaneTouch.ofCue (cuesStep_touch s a))

/-! ### PT -/

/-- PT in range is written as it is, and nothing else changes. -/
theorem putPt_of_range {v : Int} (h : 0 ≤ v ∧ v < ptLimit) : s.putPt v = { s with tb := { s.tb with pt := v.toNat } } := by
  unfold State.putPt; rw [if_pos h]

/-- Whatever is written, PT stays below 2^64, and only PT and the draw counter change. -/
theorem putPt_spec (v : Int) : (s.putPt v).tb.pt < ptLimit ∧ s.putPt v = { s with tb := { s.tb with pt := (s.putPt v).tb.pt }, draws := (s.putPt v).draws } := by
  unfold State.putPt
  split
  · rename_i h
    exact ⟨by simp only; omega, rfl⟩
  · exact ⟨(Config.freePt s.draws).isLt, rfl⟩

/-! ### Commands -/

/-- No command stops: every one answers a next state. -/
theorem exec_next (i : Instr) : ∃ t, exec i s = .next t := by cases i <;> exact ⟨_, rfl⟩

/-- What a request does: nothing while RESET is held low; otherwise its block's effect, with the answer held. -/
theorem request_spec (f : State → State × Answer) :
    request f s = .next (if s.resetLow then s else { (f s).1 with answer := some (f s).2 }) := rfl

/-- What an event does: its effect where it can happen, and nothing elsewhere. -/
theorem event_spec (g : State → Bool) (f : State → State) :
    event g f s = .next (if s.resetLow then s else if g s then f s else s) := rfl

/-- A command at the front of the queue is carried out with the queue's rest. -/
theorem step_cons (c : Instr) (rest : List Instr) (h : s.pending = c :: rest) : step s = exec c { s with pending := rest } := by
  unfold step; rw [h]

/-- With no command waiting the part idles. -/
theorem step_nil (h : s.pending = []) : step s = .next s := by
  unfold step; rw [h]

end Sys2Proof.Machine
end

