-- ==== Sys2Proof/Laws/Same.lean ====
section
/-! SUPPORT. Writes that change nothing or that undo one another, a flag read after a raising, and the outcome of a request or an event
by its guard. -/

namespace Sys2Proof.Bank

variable {α : Type} {n : Nat}

/-- Banks with the same records are the same. -/
theorem ext_list {b c : Bank α n} (h : b.list = c.list) : b = c := by
  cases b; cases c; simp_all

/-- Banks that read the same at every number they have are the same. -/
theorem ext_get {b c : Bank α n} (d : α) (h : ∀ i < n, b.get i d = c.get i d) : b = c := by
  refine ext_list (List.ext_getElem (by rw [b.size, c.size]) fun i h1 h2 => ?_)
  have := h i (by rw [← b.size]; exact h1)
  simpa [get, List.getD_eq_getElem?_getD, h1, h2] using this

/-- Writing back what a record holds changes nothing. -/
@[simp] theorem put_get (b : Bank α n) (i : Nat) (d : α) : b.put i (b.get i d) = b := by
  rcases Nat.lt_or_ge i n with h | h
  · refine ext_get d fun j _ => ?_
    by_cases hij : i = j
    · subst hij; exact get_put_same b h _ d
    · exact get_put_ne b hij _ d
  · exact put_out b h _

/-- The later of two writes to one record stands. -/
@[simp] theorem put_put (b : Bank α n) (i : Nat) (x y : α) : (b.put i x).put i y = b.put i y := ext_list (by simp [put])

/-- Writes to two records come in either order. -/
theorem put_comm (b : Bank α n) {i j : Nat} (h : i ≠ j) (x y : α) : (b.put i x).put j y = (b.put j y).put i x :=
  ext_list (List.set_comm _ _ h)

end Sys2Proof.Bank

namespace Sys2Proof.Machine

variable (s : State)

@[simp] theorem State.setLane_lane (i : Nat) : s.setLane i (s.lane i) = s := by simp [State.setLane, State.lane]
@[simp] theorem State.setFp_fp (i : Nat) : s.setFp i (s.fp i) = s := by simp [State.setFp, State.fp]
@[simp] theorem State.setMark_mark (i : Nat) : s.setMark i (s.mark i) = s := by simp [State.setMark, State.mark]
@[simp] theorem State.setDevice_device (i : Nat) : s.setDevice i (s.device i) = s := by simp [State.setDevice, State.device]
@[simp] theorem State.setCue_cue (i : Nat) : s.setCue i (s.cue i) = s := by simp [State.setCue, State.cue]
@[simp] theorem State.setLine_line (i : Nat) : s.setLine i (s.line i) = s := by simp [State.setLine, State.line]

/-- A conversion that meets no condition leaves the lane's sticky flags, and the state, as they were. -/
@[simp] theorem stick_none (i : Nat) : stick i .none s = s := by
  have h : (s.lane i).sticky.or .none = (s.lane i).sticky := by simp [Conds.or, Conds.none]
  have k : (s.lane i).sticky.newly .none = false := by simp [Conds.newly, Conds.none]
  simp only [stick, h, k, raiseIf]
  exact State.setLane_lane s i

@[simp] theorem stickOpt_none (i : Option Nat) : stickOpt i .none s = s := by
  cases i <;> simp [stickOpt]

/-- A flag after a raising: set and not seen if it is the one raised, and else as it was (R163). -/
theorem flag_raise (f g : Flag) :
    (raise f s).flag g = if g = f then { s.flag f with set := true, seen := false } else s.flag g := by
  unfold State.flag State.flagNo raise
  split
  · rename_i h
    subst h
    exact Bank.get_put_same _ (by cases g <;> decide) _ _
  · rename_i h
    exact Bank.get_put_ne _ (by revert h; cases f <;> cases g <;> decide) _ _

/-- A raised flag stays set when any flag is raised after it. -/
theorem raise_keeps_set {f g : Flag} (h : (s.flag g).set = true) : ((raise f s).flag g).set = true := by
  rw [flag_raise]; split <;> simp_all

/-- A request outside reset: its block's effect, with the answer held. -/
theorem request_live {f : State → State × Answer} {s : State} (h : s.resetLow = false) :
    request f s = .next { (f s).1 with answer := some (f s).2 } := by simp [request, live, h]

/-- An event that can happen, outside reset. -/
theorem event_live {g : State → Bool} {f : State → State} {s : State} (h : s.resetLow = false) (hg : g s = true) :
    event g f s = .next (f s) := by simp [event, live, h, hg]

/-- An event that cannot happen changes nothing. -/
theorem event_idle {g : State → Bool} {f : State → State} {s : State} (hg : g s = false) : event g f s = .next s := by
  simp [event, live, hg]

/-- While RESET is held low nothing changes. -/
theorem live_held {f : State → State} {s : State} (h : s.resetLow = true) : live f s = .next s := by simp [live, h]

end Sys2Proof.Machine
end

