-- ==== Sys2Proof/Tests/Slice0.lean ====
section
/-! SUPPORT. The model's own tests: the ill-formed term of each check of WellFormed, the manual's worked examples one step at a time, and
for each statement with hypotheses a state and operands that meet them. Expected values are the manual's, or worked by hand from its
rules. -/

namespace Sys2Proof.Tests

open Sys2Proof.Machine

set_option Elab.async false

/-! ### Small states -/

/-- What a command leaves; no command of the block stops. -/
def after (c : Instr) (s : State) : State :=
  match exec c s with
  | .next t => t
  | .fault _ => s
  | .refused _ => s

/-- The answer to a request. -/
def reply (c : Instr) (s : State) : Option Answer := (after c s).answer

/-- XO RUNNING and selected, with the time SET at a PT. -/
def base (pt : Nat) : State :=
  { State.reset with
    src := { Sources.reset with xo := { SourceRec.resetXo with state := .running } }
    tb := { Timebase.reset with pt := pt, set := true } }

/-- A RUNNING lane of a code, its mapping and phase 0, that has latched index 0. -/
def laneOf (code : Nat) (df : Bool) : Lane :=
  { Lane.reset with
    state := .running, code := code, period := ratePeriod code, base := rateBase code, df := df, mapping := some ⟨0, 0⟩
    latched := some ⟨0, 0, 0, none⟩, next := some 1 }

/-- The 29.97 drop-frame lane of section 1.9. -/
def drop : Lane := laneOf 4 true

/-- The same lane with a sound part of 48 kHz without pull. -/
def dropSound : Lane := { drop with sound := some ⟨false, 0⟩ }

/-- A 25 fps lane. -/
def pal : Lane := laneOf 3 false

/-- A state with one lane, lane 0, at a PT. -/
def withLane (l : Lane) (pt : Nat) : State := (base pt).setLane 0 l

/-- A rise held beyond every filter. -/
def rise : LevelChange := ⟨true, 16000, none, 0, false, false, false, false⟩

/-- A frame's label record. -/
def lab (hh mm ss ff ind : Nat) : Label := ⟨hh, mm, ss, ff, ind⟩

/-! ### WellFormed smoke tests: one ill-formed term for each check -/

theorem test_wf_unsigned_one_byte : (Instr.sourceSelect 256).WellFormed = false := by decide
theorem test_wf_unsigned_two_bytes : (Instr.markConfig 0 0 0 0 0 65536 0).WellFormed = false := by decide
theorem test_wf_unsigned_four_bytes : (Instr.disciplineConfig 0 0 0 4294967296).WellFormed = false := by decide
theorem test_wf_unsigned_six_bytes : (Instr.cueModify 0 0 281474976710656 0).WellFormed = false := by decide
theorem test_wf_unsigned_eight_bytes : (Instr.timeSet 18446744073709551616).WellFormed = false := by decide
theorem test_wf_signed_four_bytes : (Instr.trimCal 0 2147483648).WellFormed = false := by decide
theorem test_wf_signed_six_bytes : (Instr.refConfig 0 0 (-140737488355329) 0).WellFormed = false := by decide
theorem test_wf_label_byte : (Instr.laneSetLabel 0 (lab 0 0 0 256 0)).WellFormed = false := by decide
theorem test_wf_filter_code : (Instr.refEdge { rise with oldFilter := some 4 }).WellFormed = false := by decide
theorem test_wf_flag_number : (Instr.ack [256]).WellFormed = false := by decide
theorem test_wf_lane_number : (Instr.laneBoundary 16).WellFormed = false := by decide
theorem test_wf_output_number : (Instr.framePulseEnd 4).WellFormed = false := by decide
theorem test_wf_input_number : (Instr.markExpiry 8).WellFormed = false := by decide
theorem test_wf_device_number : (Instr.deviceSilenceExpiry 32).WellFormed = false := by decide
theorem test_wf_slot_number : (Instr.cuePulseEnd 64).WellFormed = false := by decide
theorem test_wf_flag_list_length : (Instr.attnEnable (List.replicate 252 1)).WellFormed = false := by decide +kernel
theorem test_wf_largest_values : (Instr.trimCal 255 (-2147483648)).WellFormed = true := by decide

/-! ### Bits and frames (section 10.3; no row of the table gives bits) -/

theorem test_no_word_spells_a_command : decodeTableWord 8 0x01 = none := rfl

/-- Section 10.3: the CRC of the nine characters 123456789. -/
theorem test_crc_check_value : crcBytes [0x31, 0x32, 0x33, 0x34, 0x35, 0x36, 0x37, 0x38, 0x39] = [0x29, 0xB1] := by decide +kernel

/-- Section 10.8: the IDENTIFY frame of tag 0, from its bytes. -/
theorem test_identify_frame_bytes : (⟨0x01, 0x00, []⟩ : Frame).wire = [0xC3, 0x02, 0x01, 0x00, 0x91, 0xCD] := by decide +kernel

/-! ### Worked examples, one step each -/

/-- Section 1.3, the table of counts across a dropping minute. -/
theorem test_drop_frame_counts :
    [1798, 1799, 1800, 1801, 17981, 17982, 17983, 17984].map drop.labelOf
      = [lab 0 0 59 28 1, lab 0 0 59 29 1, lab 0 1 0 2 1, lab 0 1 0 3 1, lab 0 9 59 29 1, lab 0 10 0 0 1, lab 0 10 0 1 1, lab 0 10 0 2 1] := by
  decide

/-- R9 and R10: the last count of the drop-frame day, both ways. -/
theorem test_last_drop_frame_count : drop.labelOf 2589407 = lab 23 59 59 29 1 ∧ drop.countOf (lab 23 59 59 29 1) = 2589407 := by decide

/-- R9 at code 9. -/
theorem test_last_count_at_code_nine : (laneOf 9 true).labelOf 5178815 = lab 23 59 59 59 1 := by decide

/-- R7: 01:00:00:00 at 25. -/
theorem test_non_drop_label : pal.labelOf 90000 = lab 1 0 0 0 0 ∧ pal.countOf (lab 0 0 1 3 0) = 28 := by decide

/-- R8: the dropped labels at code 4. -/
theorem test_dropped_labels :
    drop.labelExists (lab 0 1 0 1 1) = false ∧ drop.labelExists (lab 0 10 0 0 1) = true ∧ drop.labelExists (lab 0 1 0 2 1) = true := by
  decide

/-- Section 1.9: PT to label and sample position, with INEXACT masked. -/
theorem test_convert_from_pt :
    reply (.laneConvert 0 0 3245000000 (lab 0 0 0 0 0) 0 0 0) (withLane dropSound 0)
      = some ⟨.ok, [.label (lab 0 1 0 2 1), .ticks 1760000, .sample 2884444, .pt 0, .code 0, .code 0, .code 1]⟩ := by decide +kernel

/-- R14: NEAREST of 00:01:00;02. -/
theorem test_convert_nearest :
    reply (.laneConvert 0 1 0 (lab 0 1 0 2 1) 0 0 0) (withLane drop 3245000000)
      = some ⟨.ok, [.label (lab 0 0 0 0 0), .ticks 0, .sample 0, .pt 3243240000, .code 0, .code 0, .code 0]⟩ := by decide +kernel

/-- R14: NEXT of 00:01:00;02. -/
theorem test_convert_next :
    (reply (.laneConvert 0 1 0 (lab 0 1 0 2 1) 1 0 0) (withLane drop 3245000000)).map (fun a => a.fields.getD 3 (.code 0))
      = some (.pt 4668838574400) := by decide +kernel

/-- Section 1.9: a label that does not exist, INVALID masked. -/
theorem test_convert_missing_label :
    (reply (.laneConvert 0 1 0 (lab 0 1 0 0 1) 0 0 0) (withLane drop 3245000000)).map (fun a => (a.fields.getD 3 (.code 0), a.fields.getD 4 (.code 0)))
      = some (.pt 3243240000, .code 1) := by decide +kernel

/-- R15: NEAREST before PT 0 clamps to 0. -/
theorem test_convert_clamps :
    (reply (.laneConvert 0 1 0 (lab 23 59 59 24 0) 0 0 0) (withLane pal 54000)).map (fun a => (a.fields.getD 3 (.code 0), a.fields.getD 5 (.code 0)))
      = some (.pt 0, .code 1) := by decide +kernel

/-- R18: sample 1,602. -/
theorem test_convert_from_sample :
    (reply (.laneConvert 0 2 0 (lab 0 0 0 0 0) 0 0 1602) (withLane dropSound 0)).map (fun a => a.fields.getD 3 (.code 0))
      = some (.pt 1802250) := by decide +kernel

/-- Section 1.9: 23.976 with 48 kHz pulled down, sample 2,001. -/
theorem test_pulled_down_sample :
    (reply (.laneConvert 0 2 0 (lab 0 0 0 0 0) 0 0 2001) (withLane { laneOf 1 false with sound := some ⟨false, 1⟩ } 0)).map
        (fun a => (a.fields.getD 3 (.code 0), a.fields.getD 6 (.code 0)))
      = some (.pt 2253377, .code 1) := by decide +kernel

/-- Section 1.6, the cadence table: NEAREST_EVEN and DOWN at boundary 3. -/
theorem test_sample_cadence :
    dropSound.latchSample ⟨false, 0⟩ 5405400 = (4805, false)
      ∧ ({ dropSound with rounding := .down } : Lane).latchSample ⟨false, 0⟩ 5405400 = (4804, false)
      ∧ dropSound.latchSample ⟨false, 0⟩ 9009000 = (8008, true) := by decide +kernel

/-- Section 1.9: a count out of range, RANGE unmasked. -/
theorem test_count_out_of_range :
    reply (.laneConvert 0 0 4665602160000 (lab 0 0 0 0 0) 0 0 0) (withLane { pal with masks := ⟨true, false, true⟩ } 0)
      = some ⟨.range, []⟩ := by decide +kernel

/-- Section 2.8: the twentieth missing cycle, with XO stopped. -/
theorem test_fallback :
    let s := { base 5 with
      src := ⟨⟨false, .off, 1, 0, 1200⟩, ⟨true, .running, 3, 0, 0⟩, 20, .ext⟩
      tb := { (base 5).tb with state := .locked, i := -610, trim := -600, refPresent := true } }
    let t := after .extActivityLoss s
    t.tb.state = .locking ∧ t.tb.i = 1200 ∧ t.tb.trim = 1200 ∧ t.src.xo.state = .starting ∧ (t.flag .ptStall).set = true := by
  decide +kernel

/-- R27: XO's wait with code 3 ends at 2,160,000 cycles. -/
theorem test_xo_becomes_running :
    let s := { State.reset with src := { Sources.reset with xo := { SourceRec.resetXo with progress := 2160000 } } }
    (after (.startingToRunning .xo) s).src.xo.state = .running
      ∧ (after (.startingToRunning .xo) State.reset).src.xo.state = .starting := by decide +kernel

theorem test_source_config_reply : reply (.sourceConfig 1 1 1) (base 0) = some ⟨.ok, [.code 1, .code 1, .code 1, .code 1]⟩ := by decide +kernel
theorem test_source_select_not_ready : reply (.sourceSelect 1) (base 0) = some ⟨.notReady, []⟩ := by decide +kernel
theorem test_ext_missing_cycle :
    (after .extMissingCycle { base 0 with src := { (base 0).src with ext := ⟨true, .starting, 3, 70, 0⟩, missing := 4 } }).src.missing = 5 := by
  decide +kernel
theorem test_ext_activity_return :
    (after .extActivityReturn { base 0 with src := { (base 0).src with ext := ⟨true, .failed, 3, 0, 0⟩, missing := 20 } }).src.ext.state
      = .starting := by decide +kernel
theorem test_trim_cal_clamps : reply (.trimCal 0 (-100001)) (base 0) = some ⟨.ok, [.code 0, .ppb (-100000)]⟩ := by decide +kernel

/-- R58: five XO cycles' worth of trim, one cycle at +100,000 ppb keeps 10^-4 tick. -/
theorem test_cycle_keeps_fraction :
    let t := after (.sourceCycle .xo) { base 7 with tb := { (base 7).tb with trim := 100000, i := 100000 } }
    t.tb.pt = 8 ∧ t.tb.frac = 1000000 := by decide +kernel

/-- R58: one EXT cycle at trim 0 is 5.4 ticks. -/
theorem test_ext_cycle :
    let s := { base 7 with src := { (base 7).src with ext := ⟨true, .running, 3, 0, 0⟩, selection := .ext } }
    (after (.sourceCycle .ext) s).tb.pt = 12 ∧ (after (.sourceCycle .ext) s).tb.frac = 4000000000 := by decide +kernel

/-- A PRESENT 25 fps house expected at a PT. -/
def house (s : State) (expected : Int) : State :=
  { s with
    ref := { RefMon.reset with filter := 0, state := .present, house := some 3, lastAccepted := some (expected - 2160000), expectedPt := some expected }
    tb := { s.tb with refPresent := true } }

/-- Section 4.10, edge 14: e = +10 from i = 0. -/
theorem test_loop_edge :
    let s := house { base 21600010 with tb := { (base 21600010).tb with state := .locking, inWin := 1 } } 21600000
    let t := after (.refEdge rise) s
    t.tb.p = -289 ∧ t.tb.i = -4 ∧ t.tb.trim = -293 ∧ t.tb.inWin = 2 := by decide +kernel

/-- Section 4.10: the entry edge after a return, e = +3,100 from i = −183. -/
theorem test_entry_edge_without_step :
    let s := house { base 21603100 with tb := { (base 21603100).tb with state := .locking, entry := true, i := -183, trim := -183 } } 21603100
    let t := after (.refEdge rise) s
    t.tb.p = -89699 ∧ t.tb.i = -1584 ∧ t.tb.trim = -91283 ∧ t.tb.pt = 21603100 := by decide +kernel

/-- R67: an error of −6,000 steps PT forward by 6,000. -/
theorem test_entry_edge_steps :
    let s := house { base 21594000 with tb := { (base 21594000).tb with state := .locking, entry := true, i := -183, trim := -183 } } 21594000
    let t := after (.refEdge rise) s
    t.tb.pt = 21600000 ∧ t.tb.i = -183 ∧ t.tb.inWin = 1 ∧ t.ref.lastAccepted = some 21600000 := by decide +kernel

/-- Section 3.7: a period of 2,250,004 under an expected rate of 1. -/
theorem test_wrong_rate :
    let s := { base 2250004 with ref := { RefMon.reset with filter := 0, expected := 1, state := .qualifying, prev := some 0 } }
    let t := after (.refEdge rise) s
    t.ref.candidate = some 2 ∧ t.ref.qualify = 0 ∧ t.ref.mismatch = true ∧ (t.flag .refMismatch).set = true := by decide +kernel

/-- R51: the fourth empty window, LOCKED at i = −183. -/
theorem test_reference_lost :
    let s := { house (base 0) 1000 with
      tb := { (base 1300000).tb with state := .locked, refPresent := true, i := -183, trim := -180 } }
    let t := after .refWindowClose { s with ref := { s.ref with misses := 3 } }
    t.ref.state = .absent ∧ t.tb.state = .holdover ∧ t.tb.trim = -183 := by decide +kernel

theorem test_ref_config_clamps_delay :
    reply (.refConfig 0 1 500000 0) (base 0) = some ⟨.ok, [.code 0, .code 1, .ticks 450000, .code 0, .code 0]⟩ := by decide +kernel

/-- R76: a limit of 300 s ends a holdover of 400 s. -/
theorem test_discipline_config_expires :
    let s := { base 0 with tb := { (base 0).tb with state := .holdover, elapsed := 21600000000 } }
    let t := after (.disciplineConfig 1 270 5400 300) s
    t.tb.state = .freerun ∧ (t.flag .holdoverExpired).set = true := by decide +kernel

theorem test_holdover_expiry :
    let s := { base 0 with tb := { (base 0).tb with state := .holdover, elapsed := 32400000000, i := -183, trim := -183 } }
    (after .holdoverExpiry s).tb.state = .freerun ∧ (after .holdoverExpiry s).tb.trim = 0 := by decide +kernel

/-- R62: TIME_SET while LOCKED at 25 keeps PT's remainder. -/
theorem test_time_set_keeps_remainder :
    let s := house { base 2160100 with tb := { (base 2160100).tb with state := .locked } } 4320100
    reply (.timeSet 0) s = some ⟨.ok, [.pt 100, .ticks 100, .code 2]⟩ := by decide +kernel

/-- Section 5.2: a CUSTOM lane's clamps. -/
theorem test_custom_lane_clamps :
    reply (.laneDefine 2 15 100000 300 0 500000 0 0 0 0 (lab 0 0 0 0 0)) (base 0)
      = some ⟨.ok, [.code 15, .ticks 225000, .short 250, .code 0, .ticks 224999, .code 0, .code 0, .code 0, .code 0,
          .label (lab 0 0 0 0 0), .code 1]⟩ := by decide +kernel

/-- R84: a lane defined at PT 3,245,000,000 waits for index 1,801. -/
theorem test_define_at_next :
    let t := after (.laneDefine 0 4 0 0 1 0 0 0 0 1 (lab 1 0 0 0 1)) (base 3245000000)
    (t.lane 0).next = some 1801 ∧ (t.lane 0).pendingLabel = some 107892 := by decide +kernel

/-- R84: the start at index 1,801. -/
theorem test_boundary_starts_lane :
    let l := { drop with state := .waiting, atNext := true, mapping := none, latched := none, pendingLabel := some 107892, next := some 1801 }
    let t := after (.laneBoundary 0) (withLane l 3245041800)
    (t.lane 0).state = .running ∧ (t.lane 0).mapping = some ⟨1801, 107892⟩ ∧ (t.lane 0).next = some 1802
      ∧ (t.flag .laneReleased).set = true := by decide +kernel

theorem test_hold_freezes_latched_label :
    (after (.laneHold 0) (withLane { pal with latched := some ⟨7, 15120000, 7, none⟩ } 0)).lane 0
      = { pal with state := .held, latched := some ⟨7, 15120000, 7, none⟩, frozen := some 7 } := by decide +kernel
theorem test_set_label_in_hold :
    reply (.laneSetLabel 0 (lab 1 0 0 0 0)) (withLane { pal with state := .held, frozen := some 0 } 0)
      = some ⟨.ok, [.label (lab 1 0 0 0 0)]⟩ := by decide +kernel
theorem test_release_waits :
    reply (.laneRelease 0) (withLane { pal with state := .held, frozen := some 0 } 0) = some ⟨.ok, [.code 4, .index 1]⟩ := by decide +kernel

/-- A camera on lane 0. -/
def camera : Device := newDevice 0 0 255 0 (-1) (-1) (-1) 10 120 0 0 0

/-- Section 5.5: an offset of −4,430,000 at 25 gives Δ = +2 and the estimate −110,000. -/
theorem test_jam :
    reply (.laneJam 0 1) ((withLane pal 0).setDevice 1 (some { camera with state := .acquiring, offsetEst := some (-4430000) }))
      = some ⟨.ok, [.index 2, .word 2, .ticks (-110000)]⟩ := by decide +kernel

theorem test_lane_exceptions_read_and_clear :
    let s := withLane { pal with sticky := ⟨true, false, true⟩ } 0
    (reply (.laneExceptions 0 1 0 0 3 1 0 0) s = some ⟨.ok, [.code 1, .code 0, .code 0, .code 3, .code 1, .code 0, .code 1]⟩)
      ∧ ((after (.laneExceptions 0 1 0 0 3 1 0 0) s).lane 0).sticky = ⟨false, false, true⟩ := by decide +kernel
theorem test_lane_clear_in_use :
    reply (.laneClear 0) ((withLane pal 0).setDevice 9 (some camera)) = some ⟨.inUse, []⟩ := by decide +kernel
theorem test_lane_query_of_free_lane : ((reply (.laneQuery 15) (base 0)).map fun a => a.fields.getD 0 (.code 9)) = some (.code 0) := by decide +kernel
theorem test_pulse_assign_clamps :
    reply (.pulseAssign 3 0 9999999 1 0) (withLane pal 0)
      = some ⟨.ok, [.code 3, .code 0, .ticks 2159946, .code 1, .code 1, .code 1]⟩ := by decide +kernel
theorem test_frame_pulse_end :
    ((after (.framePulseEnd 0) ((base 0).setFp 0 { FramePulse.reset with level := true })).fp 0).level = false := by decide +kernel

/-- An ARMED mark input without a filter. -/
def armed : MarkInput := { MarkInput.reset with enable := true, state := .armed, filter := 0 }

theorem test_mark_edge_captures :
    ((after (.markEdge 0 { rise with age := 5 }) ((base 100).setMark 0 { armed with nextNumber := 65535 })).mark 0).fifo = [⟨65535, 95⟩] := by
  decide +kernel
/-- R104: the rise that ends a dip too short for the filter is no edge, under BOTH too. -/
theorem test_reversal_is_no_mark_edge :
    let s := (base 9).setMark 0 { armed with edge := .both }
    after (.markEdge 0 { rise with reversal := true }) s = s ∧ after (.markEdge 0 rise) s ≠ s := by decide +kernel
theorem test_mark_config_clamps :
    reply (.markConfig 0 1 0 1 800 0 50) (base 0)
      = some ⟨.ok, [.code 0, .code 1, .code 0, .code 1, .word 500, .word 100, .short 1, .code 1, .code 0]⟩ := by decide +kernel
theorem test_holdoff_end :
    ((after (.holdoffEnd 0) ((base 0).setMark 0 { armed with state := .holdoff, holdoff := 54000 })).mark 0).state = .armed := by decide +kernel
theorem test_mark_expires_at_window_end :
    ((after (.markExpiry 0) ((base 108000000).setMark 0 { armed with fifo := [⟨4, 0⟩, ⟨5, 1⟩] })).mark 0).fifo = [⟨5, 1⟩] := by decide +kernel
theorem test_mark_query_lists_time_left :
    ((reply (.markQuery 0) ((base 100).setMark 0 { armed with fifo := [⟨4, 0⟩] })).map fun a => a.fields.drop 11)
      = some [.short 4, .ptSigned 0, .ticks 107999900] := by decide +kernel

/-- Section 7.2: a SLATE with mark position 2, outlier limit 10, offset tolerance every bit set and minimum span 900. -/
theorem test_register_slate :
    ((reply (.deviceRegister 2 0 255 2 10 (-1) 0 900 1 0 0 0) (withLane pal 0)).map fun a => a.fields.drop 4 |>.take 5)
      = some [.code 1, .ticks 54, .ticks 54000, .ppb 0, .word 600] := by decide +kernel
theorem test_device_remove : (after (.deviceRemove 1) ((withLane pal 0).setDevice 1 (some camera))).device 1 = none := by decide +kernel
theorem test_device_reset_track :
    reply (.deviceResetTrack 1) ((withLane pal 0).setDevice 1 (some { camera with state := .lost })) = some ⟨.ok, [.code 5, .code 0]⟩ := by
  decide +kernel

/-- R125: the slate at mid-frame, offset +400. -/
theorem test_report_offset :
    let s := (withLane drop 3244200000).setDevice 1 (some { camera with kind := .slate, midFrame := true })
    let t := after (.deviceReport 1 (lab 0 1 0 2 1) 2 0 3244141300) s
    ((t.device 1).map fun d => (d.state, d.offsetEst, d.ring.length, d.top)) = some (.acquiring, some 400, 1, 7) := by decide +kernel

/-- R126: a prediction. -/
theorem test_prediction :
    ({ camera with
        ring := [⟨1540000000, 0, 228, none, .valid, none⟩], offsetEst := some 228, driftEst := some 200 } : Device).predict 2080000000
      = some 336 := by decide +kernel

/-- R128: drift of 203.7 ppb rounds to 204. -/
theorem test_drift :
    camera.driftOf ⟨1000000000, 0, 120, none, .valid, none⟩ ⟨2080000000, 0, 340, none, .valid, none⟩ = some 204 := by decide +kernel
theorem test_silence_expiry :
    ((after (.deviceSilenceExpiry 1) ((base 0).setDevice 1 (some { camera with state := .tracking, silenceLeft := some 0 }))).device 1).map
        Device.state = some .lost := by decide +kernel
theorem test_device_query_of_free_slot : reply (.deviceQuery 31) (base 0) = some ⟨.noSuch, []⟩ := by decide +kernel
/-- R138: what DEVICE_QUERY carries after the settings and the state; the silence remaining is absent, then it runs. -/
theorem test_device_query_silence :
    ((reply (.deviceQuery 1) ((base 0).setDevice 1 (some { camera with silenceLeft := some 9 }))).map fun a => a.fields.drop 18)
      = some [.code 1, .ticks 9, .code 255, .code 0] := by decide +kernel
theorem test_device_ring_of_empty_ring : reply (.deviceRing 1) ((base 0).setDevice 1 (some camera)) = some ⟨.ok, [.code 0, .code 0]⟩ := by
  decide +kernel

/-- A HIGH cue on CO1 at an absolute PT. -/
def high (pt : Nat) : Cue := { newCue (.absolute pt) 1 54 1 1 0 0 0 with state := .waiting, due := some pt }

theorem test_cue_add_absolute :
    let t := after (.cueAdd 7 0 500000000 0 (lab 0 0 0 0 0) 0 0 1 0 1 0 0 0 0) (base 0)
    t.dues = [7] ∧ (t.cue 7).bind Cue.due = some 500000000 := by decide +kernel
theorem test_cue_due_drives_line :
    let t := after .cueDue { (base 500).setCue 7 (some (high 500)) with dues := [7] }
    (t.line 1).level = true ∧ t.cue 7 = none ∧ t.dues = [] ∧ (t.flag .cueFired).set = true := by decide +kernel

/-- R147: a late firing passes over two dues. -/
theorem test_late_series :
    let q := { high 1000000000 with interval := 54000000, repeatCount := 4, left := some 5 }
    let t := after .cueDue { (base 1130000000).setCue 7 (some q) with dues := [7] }
    ((t.cue 7).map fun c => (c.due, c.left)) = some (some 1162000000, some 2) := by decide +kernel

/-- R142: hh ANY, mm ANY, 00, 00 matches the tenth minute. -/
theorem test_wildcard :
    patternCovers (lab 255 255 0 0 1) (drop.labelOf 17982) = true ∧ patternCovers (lab 255 255 0 0 1) (drop.labelOf 1800) = false := by decide
/-- R142 and R147: a search that passes the last firing over still sets the current anchor. -/
theorem test_wildcard_current_anchor :
    let q := { high 0 with
      anchor := .label 0 (lab 255 255 255 1 0) 0, current := none, action := .pulse, repeatCount := 1, left := some 2, due := some 2160000 }
    let t := after .cueDue { (withLane pal 60000000).setCue 7 (some q) with dues := [7] }
    ((t.cue 7).map fun c => (c.state, c.left, c.current)) = some (.pulsing, some 0, some 26) := by decide +kernel
theorem test_cue_pulse_end_idles_line :
    let s := (base 0).setCue 3 (some { high 0 with state := .pulsing, action := .pulse, left := some 0, due := none })
    let t := after (.cuePulseEnd 3) (s.setLine 1 ⟨false, true, some 3⟩)
    t.line 1 = ⟨false, false, none⟩ ∧ t.cue 3 = none := by decide +kernel
theorem test_cue_cancel : reply (.cueCancel 3) ((base 0).setCue 3 (some (high 9))) = some ⟨.ok, [.code 1, .code 255]⟩ := by decide +kernel
theorem test_cue_modify_of_free_slot : reply (.cueModify 0 0 0 0) (base 0) = some ⟨.wrongState, []⟩ := by decide +kernel
theorem test_cue_query_of_free_slot : ((reply (.cueQuery 63) (base 0)).map fun a => a.fields.getD 0 (.code 9)) = some (.code 0) := by
  decide +kernel
theorem test_cue_list :
    reply (.cueList 0) { (base 0).setCue 3 (some (high 9)) with dues := [3] } = some ⟨.ok, [.code 1, .code 0, .code 1, .code 3, .pt 9]⟩ := by
  decide +kernel

/-- R150: idle HIGH with drive none, on a line held HIGH over idle LOW. -/
theorem test_output_set :
    (after (.outputSet 3 1 0) ((base 0).setLine 3 ⟨false, true, some 9⟩)).line 3 = ⟨true, true, some 9⟩ := by decide +kernel
theorem test_output_query : reply (.outputQuery 7) (base 0) = some ⟨.ok, [.code 0, .code 0, .code 255, .ticks 0]⟩ := by decide +kernel

/-! ### Flags and the link -/

/-- A state with some flags raised. -/
def raised (l : List Flag) : State := l.foldl (fun s f => raise f s) (base 0)

theorem test_flags_marks_seen : ((after .flags (raised [.cueFired])).flag .cueFired) = ⟨true, true, false⟩ := by decide +kernel
theorem test_ack_needs_seen : reply (.ack [20]) (raised [.cueFired]) = some ⟨.ok, [.code 0, .code 1, .code 20, .code 0]⟩ := by decide +kernel
theorem test_attn_enable_asserts : (reply (.attnEnable [20]) (raised [.cueFired])).map (fun a => a.fields.getLast?) = some (some (.code 1)) := by
  decide +kernel
theorem test_time_get : reply .timeGet (base 9) = some ⟨.ok, [.pt 9, .code 1, .code 0]⟩ := by decide +kernel
theorem test_tb_query : ((reply .tbQuery (base 9)).map fun a => a.fields.drop 10) = some [.ticks 270, .ticks 5400, .word 600] := by decide +kernel
theorem test_ref_query : ((reply .refQuery (base 9)).map fun a => a.fields.drop 10) = some [.code 0, .code 1, .ticks 0, .code 0] := by
  decide +kernel
theorem test_source_query : ((reply .sourceQuery (base 9)).map fun a => a.fields.take 4) = some [.code 0, .code 0, .code 1, .code 2] := by
  decide +kernel
theorem test_identify : reply .identify (base 0) = some ⟨.ok, [.short 0x2416, .code 1, .code 0]⟩ := by decide +kernel
theorem test_status_counts_fields : ((reply .status (base 0)).map fun a => a.fields.length) = some 16 := by decide +kernel
theorem test_power_on_samples_straps : (after (.powerOn true false) (base 9)).link.rate = 2 := by decide +kernel
theorem test_reset_assert_holds : (after .resetAssert (base 9)).resetLow = true ∧ (after .resetAssert (base 9)).tb.pt = 0 := by decide +kernel
theorem test_reset_release : (after (.resetRelease true true) (after .resetAssert (base 9))).link.rate = 3 := by decide +kernel

/-- A state with an idle Link Port but for one part of it. -/
def linked (l : Link) : State := { base 0 with link := l }

theorem test_rxd_byte_finds_preamble : (after (.rxdByte 0xC3) (base 0)).link.hunter = .length := by decide +kernel
theorem test_framing_error_hunts : (after (.framingError true) (linked { Link.reset 0 with hunter := .length })).link.breakWait = true := by
  decide +kernel
theorem test_rxd_returns_high : (after .rxdReturnsHigh (linked { Link.reset 0 with breakWait := true })).link.breakWait = false := by decide +kernel
theorem test_inter_byte_timeout :
    (after (.interByteTimeout 232) (linked { Link.reset 0 with hunter := .length })).link.hunter = .hunt
      ∧ (after (.interByteTimeout 231) (linked { Link.reset 0 with hunter := .length })).link.hunter = .length := by decide +kernel

/-- Section 10.8: the reply to IDENTIFY carries the kind 0x81. -/
theorem test_request_take_replies :
    (after .requestTake (linked { Link.reset 0 with queue := [⟨0x01, 0x00, []⟩] })).link.sending
      = some ⟨0x81, 0x00, [0x00, 0x24, 0x16, 0x01, 0x00]⟩ := by decide +kernel
theorem test_reply_sent :
    (after .replySent (linked { Link.reset 0 with sending := some ⟨0x81, 0, []⟩, waiting := some ⟨0x83, 1, []⟩ })).link.sending
      = some ⟨0x83, 1, []⟩ := by decide +kernel
theorem test_restart_is_due_at_once : (after .restart (base 0)).link.restart = .due := by decide +kernel
theorem test_restart_stays_due :
    (after .restart (linked { Link.reset 0 with sending := some ⟨0x86, 0, [0]⟩, restart := .due })).link.restart = .due := by decide +kernel
theorem test_restart_effect :
    (after .restartEffect { withLane pal 7 with link := { Link.reset 0 with restart := .due } }).lane 0 = Lane.reset
      ∧ (after .restartEffect { withLane pal 7 with link := { Link.reset 0 with restart := .due } }).tb.pt = 7 := by decide +kernel

/-! ### Witnesses: for each statement with hypotheses, states and operands that meet them, clause by clause -/

theorem test_witness_StepRunsTheFrontCommand : State.reset.pending = [] := rfl

theorem test_witness_PowerAndResetLeavePowerOnValues : (after .resetAssert (base 9)).resetLow = true ∧ (base 9).resetLow = false := by
  decide +kernel

theorem test_witness_ResetHeldLowHoldsEveryBlock :
    (after .resetAssert (base 9)).resetLow = true ∧ (∀ b1 b0, Instr.status ≠ .powerOn b1 b0) ∧ Instr.status ≠ .resetAssert
      ∧ ∀ b1 b0, Instr.status ≠ .resetRelease b1 b0 := by decide +kernel

/-- A Link Port that hunts, with `n` frames queued. -/
def hunting (h : Hunter) (n : Nat) : State := linked { Link.reset 0 with hunter := h, queue := List.replicate n ⟨1, 0, []⟩ }

theorem test_witness_EachByteMovesTheHunter :
    (hunting .hunt 0).resetLow = false ∧ (hunting .hunt 0).link.breakWait = false ∧ (hunting .length 0).link.hunter = .length
      ∧ ([] : List Byte).length + 1 < 2 ∧ ([1] : List Byte).length + 1 = 2
      ∧ (hunting (.collect 2 [1]) 0).link.hunter = .collect 2 [1] ∧ (hunting (.check 2 [1, 0] none) 0).link.hunter = .check 2 [1, 0] none
      ∧ (hunting (.check 2 [1, 0] (some 0x91)) 3).link.queue.length < 4 ∧ 4 ≤ (hunting (.check 2 [1, 0] (some 0x91)) 4).link.queue.length
      ∧ crcBytes (BitVec.ofNat 8 2 :: [1, 0]) = [0x91, 0xCD] ∧ crcBytes (BitVec.ofNat 8 2 :: [1, 0]) ≠ [0x91, 0xCC] := by decide +kernel

theorem test_witness_EveryFrameSentIsRead :
    (hunting .hunt 4).resetLow = false ∧ (hunting .hunt 4).link.breakWait = false ∧ (hunting .hunt 3).link.hunter = .hunt
      ∧ (⟨1, 0, []⟩ : Frame).body.length ≤ 252 ∧ (⟨1, 0, List.replicate 252 7⟩ : Frame).body.length ≤ 252 := by decide +kernel

theorem test_witness_RequestFramesDecodeToTheirRequests :
    (Instr.trimCal 255 (-2147483648)).WellFormed = true ∧ frameForm (.trimCal 255 (-2147483648)) = true
      ∧ requestFrame (.trimCal 255 (-2147483648)) 7 = some ⟨0x22, 7, [0xFF, 0x80, 0, 0, 0]⟩ := by decide +kernel

theorem test_witness_FramesAreAbandonedOnErrorsAndGaps :
    (hunting .length 0).resetLow = false ∧ (hunting .length 0).link.breakWait = false ∧ (hunting .length 0).link.hunter ≠ .hunt
      ∧ ((hunting .length 0).link.rate, 231) ∈ [(0, 231), (1, 922), (2, 1844), (3, 4000)]
      ∧ (linked { Link.reset 3 with breakWait := true }).link.breakWait = true ∧ (hunting .hunt 0).link.hunter = .hunt := by decide +kernel

/-- Whether a frame is judged to be a command. -/
def isCommand (fr : Frame) (i : Instr) : Bool :=
  match judge fr with
  | .command j => decide (j = i)
  | _ => false

theorem test_witness_RequestsAreTakenAndAnswered :
    (hunting .hunt 1).resetLow = false ∧ (hunting .hunt 1).link.queue = ⟨1, 0, []⟩ :: [] ∧ (hunting .hunt 1).link.waiting = none
      ∧ (hunting .hunt 1).link.restart ≠ .due ∧ isCommand ⟨1, 0, []⟩ .identify = true := by decide +kernel
theorem test_witness_RequestsAreTakenAndAnswered_none :
    (hunting .hunt 0).link.queue = [] ∧ (linked { Link.reset 0 with queue := [⟨1, 0, []⟩], restart := .due }).link.restart = .due
      ∧ (linked { Link.reset 0 with queue := [⟨1, 0, []⟩], sending := some ⟨0x81, 0, [0]⟩, waiting := some ⟨0x81, 1, [0]⟩ }).link.waiting.isSome = true := by
  decide +kernel
theorem test_witness_RequestsAreTakenAndAnswered_malformed : judge ⟨1, 0, [0]⟩ = .malformed := rfl
theorem test_witness_RequestsAreTakenAndAnswered_unknown : judge ⟨0x67, 0, []⟩ = .unknownKind ∧ judge ⟨0x81, 0, []⟩ = .unknownKind := ⟨rfl, rfl⟩

theorem test_witness_RestartActsWhenItsReplyBegins :
    (linked { Link.reset 0 with sending := some ⟨0x86, 0, [0]⟩ }).link.sending.isSome = true
      ∧ (linked { Link.reset 0 with restart := .due }).link.restart = .due ∧ (base 0).resetLow = false := by decide +kernel

theorem test_witness_reads :
    (base 0).resetLow = false ∧ (base 0).cue 63 = none ∧ ((base 0).setCue 63 (some (high 9))).cue 63 = some (high 9)
      ∧ ((base 0).setDevice 31 (some camera)).device 31 ≠ none ∧ (base 0).device 0 = none := by
  decide +kernel

/-- Every piece of a state's laws, decided piece by piece. -/
theorem test_witness_lawful :
    let s : State := { (withLane pal 5) with pending := [.identify] }
    s.attnOk ∧ s.linkOk ∧ s.resetOk ∧ s.sourcesOk ∧ s.trimOk ∧ s.tb.countsOk ∧ s.tb.rangesOk ∧ s.tb.stateOk ∧ s.refOk ∧ s.lanesOk
      ∧ s.namesOk ∧ s.fpsOk ∧ s.marksOk ∧ s.devicesOk ∧ s.duesOk ∧ s.linesOk ∧ s.cuesOk ∧ s.ownersOk ∧ s.unsetOk := by
  refine ⟨?_, ?_, ?_, ?_, ?_, ?_, ?_, ?_, ?_, ?_, ?_, ?_, ?_, ?_, ?_, ?_, ?_, ?_, ?_⟩ <;> decide +kernel

theorem test_witness_lawful_steps : ∃ t, step { (withLane pal 5) with pending := [.identify] } = .next t := ⟨_, rfl⟩

theorem test_witness_NoReplyExceedsItsFrame :
    (requestFields .identify).isSome = true ∧ (after .identify (withLane pal 5)).answer = some ⟨.ok, [.short 0x2416, .code 1, .code 0]⟩ := by
  decide +kernel

theorem test_witness_RaisingSetsAndUnmarks : Flag.linkOverrun ≠ Flag.sourceReady := by decide

theorem test_witness_AckClearsWhatWasSeen :
    (∀ n ∈ [1, 24], 1 ≤ n ∧ n ≤ 24) ∧ ¬ (([25] : List Nat).length ≤ 24 ∧ ∀ n ∈ [25], 1 ≤ n ∧ n ≤ 24)
      ∧ ¬ ((List.replicate 25 1).length ≤ 24 ∧ ∀ n ∈ List.replicate 25 1, 1 ≤ n ∧ n ≤ 24) := by decide

theorem test_witness_AttnEnableWritesTheEnables :
    (List.replicate 24 24).length ≤ 24 ∧ (∀ n ∈ List.replicate 24 24, 1 ≤ n ∧ n ≤ 24) ∧ (base 0).resetLow = false := by decide +kernel

theorem test_witness_SourceConfigWritesEnableAndWait :
    (base 0).src.selection = Spec.source 0 ∧ (base 0).src.selection ≠ Spec.source 1 ∧ (base 0).resetLow = false ∧ 1 < 2 ∧ 3 < 4 := by
  decide +kernel

theorem test_witness_SourceSelectChangesTheSource :
    let s := { base 0 with src := { (base 0).src with ext := ⟨true, .running, 3, 0, 0⟩ } }
    s.src.selection ≠ Spec.source 1 ∧ (s.src.of (Spec.source 1)).state = .running ∧ ((base 0).src.of (Spec.source 1)).state ≠ .running
      ∧ s.src.selection = Spec.source 0 := by decide +kernel

theorem test_witness_TrimCalStoresTheClampedTrim : (base 0).resetLow = false ∧ (1 : Nat) ≤ 1 ∧ (1 : Nat) < 2 := by decide +kernel

theorem test_witness_StabilizationWaitEndsInRunning :
    let s := { State.reset with src := ⟨⟨true, .starting, 3, 2160000, 0⟩, ⟨true, .starting, 0, 50000, 0⟩, 0, .xo⟩ }
    s.src.xo.state = .starting ∧ s.src.ext.state = .starting ∧ 2160000 ≤ s.src.xo.progress ∧ 50000 ≤ s.src.ext.progress := by decide +kernel

theorem test_witness_CyclesCountExactTicks :
    (base 7).src.selection = .xo ∧ ((base 7).src.of .xo).state = .running ∧ -1000000000 ≤ (base 7).tb.trim
      ∧ ((base 7).tb.pt : Int) * 10000000000 + (base 7).tb.frac + 10 * (1000000000 + (base 7).tb.trim) < 2 ^ 64 * 10000000000 := by
  decide +kernel

theorem test_witness_ExtActivityIsWatched :
    let s := { base 0 with src := { (base 0).src with ext := ⟨true, .running, 3, 0, 0⟩, missing := 20 } }
    let t := { base 0 with src := { (base 0).src with ext := ⟨true, .failed, 3, 0, 0⟩ } }
    s.src.ext.enable = true ∧ 20 ≤ s.src.missing ∧ s.src.ext.state = .running ∧ s.src.selection = .xo ∧ t.src.ext.state = .failed
      ∧ (base 0).src.ext.state = .off
      ∧ (let u := { base 0 with src := { s.src with selection := .ext } }; u.src.xo.state = .running ∧ u.src.selection = .ext) := by decide +kernel

theorem test_witness_FallbackSelectsXo :
    let s := { base 0 with src := ⟨⟨false, .off, 1, 0, 0⟩, ⟨true, .starting, 3, 0, 0⟩, 20, .ext⟩ }
    s.resetLow = false ∧ 20 ≤ s.src.missing ∧ s.src.ext.state = .starting ∧ s.src.selection = .ext := by decide +kernel

theorem edge_of (r : RefMon) (h : r.falling = false) (k : r.filter = 3) : Spec.edge r rise := by
  refine ⟨by rw [h]; rfl, rfl, rfl, rfl, 16000, ?_, le_refl _⟩
  rw [k]; decide

/-- A monitor under the widest filter. -/
def monitor : RefMon := { RefMon.reset with filter := 3 }

/-- A QUALIFYING monitor with a previous edge at 0. -/
def qualifying (candidate : Option Nat) (n expected : Nat) : State :=
  { base 2160324 with ref := { monitor with state := .qualifying, prev := some 0, candidate := candidate, qualify := n, expected := expected } }

theorem test_witness_PeriodsQualifyTheRate :
    Spec.edge (qualifying (some 3) 6 0).ref rise ∧ Spec.fits (Spec.adjusted (qualifying (some 3) 6 0) rise - 0) 3
      ∧ (qualifying (some 3) 6 0).ref.qualify + 1 < 8 ∧ (qualifying (some 2) 6 3).ref.candidate ≠ some 3
      ∧ (qualifying none 0 1).ref.expected ≠ 0 ∧ (qualifying none 0 1).ref.expected ≠ 3 ∧ monitor.state = .absent :=
  ⟨edge_of _ rfl rfl, by unfold Spec.fits; decide +kernel, by decide +kernel, by decide +kernel, by decide +kernel, by decide +kernel, rfl⟩

theorem test_witness_PeriodsQualifyTheRate_unfit : ∀ k, ¬ Spec.fits (Spec.adjusted { qualifying none 0 0 with tb := (base 2160325).tb } rise - 0) k := by
  rintro k ⟨h, h'⟩
  revert h'
  revert k
  decide +kernel

/-- REF_IN changes that are no edge, one for each way. -/
theorem test_witness_PeriodsQualifyTheRate_unheard :
    { rise with rise := false }.rise = monitor.falling ∧ { rise with reversal := true }.reversal = true
      ∧ ((rise.oldFilter.getD monitor.filter), 16000) ∈ [(0, 0), (1, 1000), (2, 4000), (3, 16000)] ∧ { rise with heldNs := 15999 }.heldNs < 16000 := by
  decide +kernel

/-- The eighth period at a phase, in HOLDOVER on an integral term. -/
def eighth (phase : Int) : State :=
  { qualifying (some 3) 7 3 with
    ref := { (qualifying (some 3) 7 3).ref with prev := some phase }
    tb := { (base (2160000 + phase).toNat).tb with state := .holdover, i := 37 } }

/-- In-window, and stepped either way, from HOLDOVER. -/
theorem test_witness_EighthPeriodMakesTheReferencePresent_holdover :
    Spec.edge (eighth 270).ref rise ∧ Spec.fits (Spec.adjusted (eighth 270) rise - 270) 3
      ∧ Spec.phase (Spec.adjusted (eighth 270) rise) 270 2160000 ∧ |(270 : Int)| ≤ (eighth 270).tb.window
      ∧ Spec.phase (Spec.adjusted (eighth 5401) rise) 5401 2160000 ∧ (eighth 5401).tb.threshold < |(5401 : Int)|
      ∧ 0 ≤ ((eighth 5401).tb.pt : Int) - 5401 ∧ Spec.phase (Spec.adjusted (eighth (-5401)) rise) (-5401) 2160000
      ∧ (eighth (-5401)).tb.state = .holdover :=
  ⟨edge_of _ rfl rfl, by unfold Spec.fits; decide +kernel, ⟨⟨1, by decide +kernel⟩, by decide +kernel, by decide +kernel⟩, by decide +kernel,
    ⟨⟨1, by decide +kernel⟩, by decide +kernel, by decide +kernel⟩, by decide +kernel, by decide +kernel,
    ⟨⟨1, by decide +kernel⟩, by decide +kernel, by decide +kernel⟩, rfl⟩

theorem test_witness_EighthPeriodMakesTheReferencePresent :
    Spec.edge (qualifying (some 3) 7 3).ref rise ∧ (qualifying (some 3) 7 3).ref.prev = some 0 ∧ (qualifying (some 3) 7 3).ref.qualify = 7
      ∧ Spec.fits (Spec.adjusted (qualifying (some 3) 7 3) rise - 0) 3 ∧ Spec.phase (Spec.adjusted (qualifying (some 3) 7 3) rise) 324 2160000
      ∧ (qualifying (some 3) 7 3).tb.state = .freerun ∧ |(324 : Int)| ≤ (qualifying (some 3) 7 3).tb.threshold
      ∧ (qualifying (some 3) 7 3).tb.window < |(324 : Int)| ∧ (qualifying (some 3) 7 3).tb.enable = true :=
  ⟨edge_of _ rfl rfl, rfl, rfl, by unfold Spec.fits; decide +kernel, ⟨⟨1, by decide +kernel⟩, by decide +kernel, by decide +kernel⟩, rfl,
    by decide +kernel, by decide +kernel, rfl⟩

/-- A PRESENT 25 fps house with its expected PT at 21,600,000, at a PT, in a discipline state. -/
def present (pt : Nat) (st : DiscState) : State :=
  let s := house { base pt with tb := { (base pt).tb with state := st } } 21600000
  { s with ref := { s.ref with filter := 3 } }

theorem test_witness_AcceptanceWindowAdmitsEdges :
    Spec.edge (present 21870000 .freerun).ref rise ∧ (present 21870000 .freerun).ref.expectedPt = some 21600000
      ∧ (present 21870000 .freerun).ref.house = some 3 ∧ 3 ∈ houseCodes
      ∧ Spec.adjusted (present 21870000 .freerun) rise ≤ 21600000 + (ratePeriod 3 / 8 : Nat)
      ∧ 21600000 + (ratePeriod 3 / 8 : Nat) < Spec.adjusted (present 21870001 .freerun) rise
      ∧ Spec.adjusted (present 21329999 .freerun) rise < 21600000 - (ratePeriod 3 / 8 : Nat) :=
  ⟨edge_of _ rfl rfl, rfl, rfl, by decide, by decide +kernel, by decide +kernel, by decide +kernel⟩

theorem test_witness_FourMissesLoseTheReference :
    (present 21870865 .locked).ref.state = .present ∧ ((present 21870865 .locked).ref.filter, 864) ∈ [(0, 0), (1, 54), (2, 216), (3, 864)]
      ∧ (21600000 : Int) + (ratePeriod 3 / 8 : Nat) - 0 + (864 : Nat) < (present 21870865 .locked).tb.pt
      ∧ (present 21870865 .locked).src.selected.state = .running
      ∧ ((present 21870864 .locked).tb.pt : Int) ≤ 21600000 + (ratePeriod 3 / 8 : Nat) - 0 + (864 : Nat)
      ∧ (present 0 .locked).ref.misses < 3 := by decide +kernel

theorem test_witness_RefConfigRestartsOrMoves :
    (base 0).ref.state = .absent ∧ (qualifying (some 3) 6 0).ref.state = .qualifying ∧ (qualifying (some 3) 6 0).ref.expectedPt = none
      ∧ (present 0 .locked).ref.state = .present ∧ (present 0 .locked).ref.falling ≠ decide (1 = 1)
      ∧ ¬ ((present 0 .locked).ref.falling ≠ decide (0 = 1) ∨ (present 0 .locked).ref.expected ≠ 0) := by decide +kernel

/-- The LOCKING or LOCKED part that takes an edge with error 270, with lock counts at their ends. -/
def locked (st : DiscState) (e : Nat) (n out : Nat) : State :=
  let s := present (21600000 + e) st
  { s with tb := { s.tb with inWin := n, outWin := out } }

theorem test_witness_AcceptedEdgesTrimTheClock :
    Spec.edge (locked .locking 270 15 0).ref rise ∧ Spec.phase (Spec.adjusted (locked .locking 270 15 0) rise) 270 2160000
      ∧ (locked .locking 270 15 0).tb.entry = false ∧ |(270 : Int)| ≤ (locked .locking 270 15 0).tb.window
      ∧ (locked .locking 270 15 0).tb.window < |(271 : Int)| ∧ Spec.phase (Spec.adjusted (locked .locked 2701 0 3) rise) 2701 2160000
      ∧ 10 * (locked .locked 2701 0 3).tb.window < |(2701 : Int)| ∧ 3 ≤ (locked .locked 2701 0 3).tb.outWin
      ∧ |(2700 : Int)| ≤ 10 * (locked .locked 2700 0 3).tb.window :=
  ⟨edge_of _ rfl rfl, ⟨⟨10, by decide +kernel⟩, by decide +kernel, by decide +kernel⟩, rfl, by decide +kernel, by decide +kernel,
    ⟨⟨10, by decide +kernel⟩, by decide +kernel, by decide +kernel⟩, by decide +kernel, by decide +kernel, by decide +kernel⟩

/-- The LOCKING part at an entry edge, with lane 0 RUNNING at 25. -/
def entering (pt : Nat) : State :=
  let s := (present pt .locking).setLane 0 { pal with latched := some ⟨9, 19440000, 9, none⟩, next := some 10 }
  { s with tb := { s.tb with entry := true } }

theorem test_witness_EntryEdgeStepsPictureTime :
    Spec.edge (entering 21594599).ref rise ∧ Spec.phase (Spec.adjusted (entering 21594599) rise) (-5401) 2160000
      ∧ (entering 21594599).tb.state = .locking ∧ (entering 21594599).tb.entry = true ∧ (entering 21594599).tb.inWin = 0
      ∧ (entering 21594599).tb.threshold < |(-5401 : Int)| ∧ ((entering 21594599).tb.pt : Int) - -5401 < 2 ^ 64
      ∧ ((entering 21594599).lane 0).next = some 10 ∧ (((entering 21594599).lane 0).period : Int) * 10 ≤ 21594599 + 5401
      ∧ Spec.phase (Spec.adjusted (entering 21605401) rise) 5401 2160000 :=
  ⟨edge_of _ rfl rfl, ⟨⟨10, by decide +kernel⟩, by decide +kernel, by decide +kernel⟩, rfl, rfl, rfl, by decide +kernel, by decide +kernel,
    by decide +kernel, by decide +kernel, ⟨⟨10, by decide +kernel⟩, by decide +kernel, by decide +kernel⟩⟩

/-- A lane in a state, its next boundary 10 passed by a step to 21,600,000 and not by one to 21,599,999. -/
theorem test_witness_EntryEdgeStepsPictureTime_passed (st : LaneState) (h : st ≠ .free) :
    Spec.passed { pal with state := st, next := some 10, frozen := some 4 } 21600000 ∧ ¬ Spec.passed { pal with state := st, next := some 10 } 21599999 := by
  refine ⟨⟨h, 10, rfl, by show Spec.place { pal with state := st, next := some 10, frozen := some 4 } 10 0 ≤ _; simp [Spec.place]; decide⟩, ?_⟩
  rintro ⟨_, n, hn, hp⟩
  obtain rfl : (10 : Int) = n := by simpa using hn
  revert hp
  simp only [Spec.place]
  decide

/-- Lane 0 before a step to 21,600,000 passes its boundary 10: started or released at it, with the labels it may resume at. -/
theorem test_witness_EntryEdgeStepsPictureTime_begins :
    let l := { pal with state := .releasing, frozen := some 5, next := some 10 }
    Spec.resumesAt l 6 ∧ Spec.resumesAt { l with pendingLabel := some 9 } 9
      ∧ Spec.resumesAt { l with frozen := some 2159999 } 0 ∧ 0 < l.nDay ∧ Spec.change l 10 6 (-4)
      ∧ Spec.change l 10 0 (-10) ∧ l.rateOk :=
  ⟨.inr ⟨rfl, 5, rfl, by decide +kernel⟩, .inl rfl, .inr ⟨rfl, 2159999, rfl, by decide +kernel⟩, by decide +kernel,
    ⟨⟨0, by decide +kernel⟩, by decide +kernel, by decide +kernel⟩, ⟨⟨0, by decide +kernel⟩, by decide +kernel, by decide +kernel⟩, by decide +kernel⟩

theorem test_witness_EntryEdgeStepsPictureTime_pulses :
    let f := { FramePulse.reset with lane := some 0, cadence := 4 }
    Spec.pulses .waiting ⟨10, 21600000, 8, none⟩ f ∧ ¬ Spec.pulses .held ⟨10, 21600000, 8, none⟩ f
      ∧ Spec.pulses .held ⟨10, 21600000, 5, none⟩ { f with cadence := 1 } ∧ ¬ Spec.pulses .releasing ⟨10, 21600000, 5, none⟩ f := by
  unfold Spec.pulses; decide +kernel

/-- R86, R91, R92, R102: a step past boundary 10 releases a lane frozen at 5 without a pending label: Δ = 6 − 10, and an output of cadence 3
pulses at count 6. -/
theorem test_step_releases_a_lane :
    let s := (entering 21594599).setLane 0 { pal with state := .releasing, frozen := some 5, next := some 10 }
    let t := after (.refEdge rise)
      ((s.setDevice 2 (some { camera with offsetEst := some 7 })).setFp 1 { FramePulse.reset with lane := some 0, cadence := 3, width := 54 })
    (t.lane 0).mapping = some ⟨10, 6⟩ ∧ (t.lane 0).state = .running ∧ (t.device 2).bind Device.offsetEst = some (7 - 4 * 2160000)
      ∧ (t.fp 1).remaining = 54 := by decide +kernel

/-- A cue whose due a forward step to 21,600,000 passes, and one whose due it reaches. -/
theorem test_witness_EntryEdgeStepsPictureTime_cues :
    let s := { ((entering 21594599).setCue 0 (some (high 21599999))).setCue 1 (some (high 21600000)) with dues := [0, 1] }
    s.duesOk ∧ ((s.cue 0).bind Cue.due) = some 21599999 ∧ ((s.cue 1).bind Cue.due) = some 21600000
      ∧ (high 21599999).anchor.lane? = none ∧ (newCue (.sample 3 0) 1 54 1 1 0 0 0).anchor.lane? = some 3 := by decide +kernel

/-- A part in HOLDOVER with an elapsed count. -/
def holding (n : Nat) : State := { base 0 with tb := { (base 0).tb with state := .holdover, elapsed := n } }

theorem test_witness_DisciplineIsSwitchedAndExpires :
    (holding 32400000000).tb.limit * 54000000 ≤ (holding 32400000000).tb.elapsed ∧ (holding 0).src.selected.state = .running
      ∧ (holding 32399999999).tb.elapsed < 600 * 54000000 ∧ (holding 540000000).tb.enable = true
      ∧ (base 0).tb.state = .freerun ∧ (base 0).tb.refPresent = false ∧ (house (base 0) 9).tb.refPresent = true := by decide +kernel

theorem test_witness_TimeSetPlacesPictureTime :
    2 ^ 56 - 1 < 2 ^ 56 ∧ (present 9 .locked).ref.house.getD 0 ∈ houseCodes ∧ State.reset.tb.set = false ∧ (present 9 .locked).tb.set = true
      ∧ ({ drop with state := .waiting } : Lane).state = .waiting ∧ ({ high 9 with state := .suspended, due := none } : Cue).anchor = .absolute 9
      ∧ (drop.phase : Int) + (1 - 1) * drop.period < 1801800 ∧ (1801800 : Int) ≤ drop.phase + 1 * drop.period := by decide +kernel

/-- A search for a wildcard due, an occurrence of a label count, and the tick of a sample: the dues of the cue statements. -/
theorem test_witness_search (l : Lane) (h : l = pal) : Spec.search l (lab 255 255 255 1 0) 0 1 1 := by
  subst h
  refine ⟨by decide, by unfold Spec.covers; decide, fun j hj hr => ?_⟩
  have h1 : (1 : Int) ≤ ((0 : Nat) : Int) + j * (2160000 : Nat) + 0 := hr
  omega

theorem test_witness_next (l : Lane) (h : l = pal) : Spec.next l 1 0 1 2160000 := by
  subst h
  exact ⟨⟨0, by decide +kernel⟩, by decide, by decide +kernel⟩

theorem test_witness_tick : Spec.tick dropSound ⟨false, 0⟩ 1 1125 ∧ Spec.tick { dropSound with sound := some ⟨false, 1⟩ } ⟨false, 1⟩ 1 1127 := by
  unfold Spec.tick; decide +kernel

/-- A LABEL cue on lane 0 at a label count. -/
def labelled (c : Nat) (interval : Nat) (left : Option Nat) : Cue :=
  { high 9 with anchor := .label 0 (pal.labelOf c) 0, current := some c, interval := interval, left := left, repeatCount := 3 }

/-- A wildcard cue on lane 0, and a SAMPLE one. -/
def wild (left : Option Nat) : Cue := { high 9 with anchor := .label 0 (lab 255 255 255 1 0) 0, current := some 1, left := left, repeatCount := 3 }
def sampled (p : Int) (interval : Nat) (left : Option Nat) : Cue :=
  { high 9 with anchor := .sample 0 p, current := some p, interval := interval, left := left, repeatCount := 3 }

/-- The dues that a recomputation, a resumption or a CUE_ADD finds. -/
theorem test_witness_due :
    Spec.due (withLane pal 1) (labelled 1 0 none).anchor (some 1) 1 2160000 (some 1)
      ∧ Spec.due (withLane pal 1) (wild none).anchor none 1 2160000 (some 1)
      ∧ Spec.due (withLane dropSound 1) (sampled 1 0 none).anchor (some 1) 1 1125 (some 1)
      ∧ Spec.due (withLane dropSound 1) (sampled (-1) 0 none).anchor (some (-1)) 1 (-1125) (some (-1))
      ∧ Spec.due (withLane { pal with sound := some ⟨false, 1⟩ } 1) (sampled 1 0 none).anchor (some 1) 1 1127 (some 1)
      ∧ Spec.whole (withLane { pal with sound := some ⟨false, 1⟩ } 1) (sampled 1 0 none).anchor (some 1) 1127 = false := by
  refine ⟨⟨fun h => ?_, fun _ => ⟨1, rfl, test_witness_next _ rfl, rfl⟩⟩, ⟨fun _ => ⟨1, test_witness_search _ rfl, by decide, by decide⟩, fun h => ?_⟩,
    ⟨_, 1, rfl, rfl, by unfold Spec.tick; decide +kernel, rfl⟩, ⟨_, -1, rfl, rfl, by unfold Spec.tick; decide +kernel, rfl⟩,
    ⟨_, 1, rfl, rfl, by unfold Spec.tick; decide +kernel, rfl⟩, by decide +kernel⟩
  · exact absurd h (by unfold Spec.any; decide)
  · exact absurd (by unfold Spec.any; decide) h

/-- A cue suspended on a lane that starts, and one in the due list of a lane whose labels move. -/
theorem test_witness_recomputed :
    let s := { ((withLane pal 1).setCue 0 (some { labelled 1 0 none with state := .suspended, due := none })).setCue 1 (some (labelled 1 0 none)) with
      dues := [1] }
    s.duesOk ∧ (labelled 1 0 none).on 0 = true ∧ (labelled 1 0 none).on 1 = false ∧ (s.lane 0).rateOk
      ∧ ((s.cue 0).map Cue.state) = some .suspended ∧ 0 ∉ s.dues ∧ 1 ∈ s.dues := by decide +kernel

theorem test_witness_TimeSetPlacesPictureTime_cues :
    let s := { ((withLane pal 9).setCue 0 (some (wild none))).setCue 1 (some (high 9)) with dues := [0, 1] }
    s.duesOk ∧ (wild none).anchor.wildcard = true ∧ (high 9).anchor.wildcard = false ∧ (s.lane 0).rateOk ∧ (9 : Int) < 10 := by decide +kernel

theorem test_witness_LabelsAndCountsInvert_codes :
    pal.df = false ∧ drop.df = true ∧ (drop.code, 2, 17982, 1798, 2589408) ∈ [(4, 2, 17982, 1798, 2589408), (9, 4, 35964, 3596, 5178816)]
      ∧ 1801 % 17982 ≥ 2 ∧ 17983 % 17982 < 2 := by decide +kernel

theorem test_witness_LabelsAndCountsInvert :
    drop.rateOk ∧ 2589407 < drop.nDay ∧ drop.wellFormed (lab 23 59 59 29 1) = true ∧ drop.labelExists (lab 23 59 59 29 1) = true
      ∧ drop.labelExists (lab 0 59 0 1 1) = false ∧ pal.rateOk := by decide +kernel

theorem test_witness_ConversionsAreExact :
    (withLane dropSound 0).lane 0 = dropSound ∧ dropSound.state.mapped = true ∧ dropSound.rateOk ∧ dropSound.mapping = some ⟨0, 0⟩
      ∧ dropSound.sound = some ⟨false, 0⟩ ∧ drop.sound = none ∧ (1125 - 0 : Int) * 48000 * 1 % 54000000 = 0
      ∧ (1124 - 0 : Int) * 48000 * 1 % 54000000 ≠ 0 ∧ drop.wellFormed (lab 23 59 59 29 1) = true
      ∧ (0 : Int) ≤ 1801799 ∧ (1801799 : Int) < drop.period ∧ -2 ^ 47 ≤ (-140737488355328 : Int) := by decide +kernel

/-- The conditions of each direction: a count beyond the day, a quotient with a remainder in each rounding mode, a label that does not exist, an
occurrence below PT 0, and a sample whose PT lies below 0. -/
theorem test_witness_ConversionsAreExact_conditions :
    (2160000 : Int) ≥ pal.nDay ∧ (1124 - 0 : Int) * 48000 * 1 % (54000000 * 1) ≠ 0
      ∧ Spec.rounds .nearestEven 1 2 0 ∧ Spec.rounds .nearestEven 3 2 2 ∧ Spec.rounds .down (-1) 2 (-1) ∧ Spec.rounds .up (-1) 2 0
      ∧ Spec.rounds .towardZero (-1) 2 0 ∧ Spec.rounds .towardZero 1 2 0
      ∧ drop.wellFormed (lab 0 1 0 0 1) = true ∧ drop.labelExists (lab 0 1 0 0 1) = false
      ∧ Spec.place pal (0 + (((2159999 : Nat) : Int) - 0) % pal.nDay + -1 * pal.nDay) 0 < 0
      ∧ ((54000 : Int) - pal.nDay * pal.period) ≤ 2 * (-2160000) ∧ Spec.tick dropSound ⟨false, 0⟩ (-1) (-1125)
      ∧ ({ pal with masks := ⟨false, false, false⟩ } : Lane).masks.range = false ∧ pal.masks.inexact = true := by
  simp only [Spec.rounds, Spec.tick]
  decide +kernel
theorem test_witness_ConversionsAreExact_refusals :
    ((base 0).lane 15).state = .free ∧ ((withLane { pal with state := .waiting } 0).lane 0).state = .waiting ∧ pal.wellFormed (lab 0 0 0 25 0) = false
      ∧ ¬ ((2160000 : Int) < pal.period) ∧ pal.sound = none ∧ ¬ ((140737488355328 : Int) < 2 ^ 47) := by decide +kernel

theorem test_witness_LaneDefineSetsUpAWaitingLane :
    ((base 5).lane 15).state = .free ∧ ((withLane pal 5).lane 0).state ≠ .free
      ∧ ({ drop with state := .waiting } : Lane).wellFormed (lab 0 1 0 0 1) = true ∧ drop.labelExists (lab 0 1 0 0 1) = false
      ∧ drop.wellFormed (lab 24 0 0 0 1) = false ∧ (0 : Int) + (1 - 1) * 1801800 < (base 5).tb.pt ∧ ((base 5).tb.pt : Int) ≤ 0 + 1 * 1801800 := by
  decide +kernel

/-- Lane 0 in each state that a boundary acts on, with its next boundary 1 reached. -/
def atBoundary (st : LaneState) (next : Bool) (pending frozen : Option Nat) : State :=
  withLane { drop with state := st, atNext := next, pendingLabel := pending, frozen := frozen } 1801800

theorem test_witness_BoundariesLatchLabels :
    (atBoundary .running false none none).tb.set = true ∧ ((atBoundary .running false none none).lane 0).next = some 1
      ∧ ((0 : Nat) : Int) + 1 * 1801800 ≤ ((atBoundary .running false none none).tb.pt : Int)
      ∧ (atBoundary .held false none (some 0)).src.selected.state = .running
      ∧ ((atBoundary .held false none (some 0)).lane 0).frozen = some 0
      ∧ ((atBoundary .waiting true (some 2589407) none).lane 0).pendingLabel = some 2589407 ∧ 2589407 < drop.nDay
      ∧ ((atBoundary .releasing false (some 2589407) (some 3)).lane 0).state = .releasing ∧ 0 < drop.nDay
      ∧ ((withLane drop 1801799).tb.pt : Int) < 0 + 1 * 1801800 := by decide +kernel

theorem test_witness_HoldLabelAndRelease :
    ((withLane pal 5).lane 0).state = .running ∧ ((withLane pal 5).lane 0).latched = some ⟨0, 0, 0, none⟩
      ∧ ((atBoundary .held false none (some 0)).lane 0).next = some 1 ∧ ((atBoundary .releasing false none (some 4)).lane 0).frozen = some 4
      ∧ ((withLane pal 5).lane 15).state = .free ∧ (withLane pal 5).linesOk ∧ drop.wellFormed (lab 0 1 0 0 1) = true
      ∧ drop.labelExists (lab 0 1 0 0 1) = false ∧ drop.wellFormed (lab 0 0 0 30 1) = false := by decide +kernel

/-- A label that does not exist, on a HELD lane, INVALID masked and unmasked. -/
theorem test_witness_HoldLabelAndRelease_masks :
    ((atBoundary .held false none (some 0)).lane 0).masks.invalid = true ∧ ((atBoundary .held false none (some 0)).lane 0).rateOk
      ∧ Spec.raised drop (lab 0 1 0 0 1) = lab 0 1 0 2 1
      ∧ ((withLane { drop with state := .held, masks := ⟨false, true, true⟩ } 0).lane 0).masks.invalid = false := by decide +kernel

/-- A device 31 on lane 0 with an offset estimate. -/
def jammable (o : Option Int) (masked : Bool) : State :=
  (withLane { pal with masks := ⟨true, true, masked⟩ } 5).setDevice 31 (some { camera with offsetEst := o })

theorem test_witness_JamsMoveTheMapping :
    ((jammable (some 1) false).device 31).map Device.lane = some 0 ∧ ((jammable (some 1) false).lane 0).state = .running
      ∧ (1 : Int) % pal.period ≠ 0 ∧ (2160000 : Int) % pal.period = 0 ∧ ((jammable (some 1) false).lane 0).masks.inexact = false
      ∧ pal.rateOk ∧ (0 : Nat) < pal.nDay ∧ ((jammable none true).device 31).bind Device.offsetEst = none
      ∧ ((atBoundary .held false none none).lane 0).state ≠ .running ∧ (jammable none true).device 0 = none := by decide +kernel

theorem test_witness_LaneSettingsAndClearing :
    (3, Rounding.towardZero) ∈ [(0, Rounding.nearestEven), (1, .down), (2, .up), (3, .towardZero)] ∧ ((withLane pal 5).lane 15).state = .free
      ∧ ((withLane pal 5).lane 0).state ≠ .free ∧ (withLane pal 5).laneNamed 0 = false
      ∧ (((withLane pal 5).setFp 3 { FramePulse.reset with lane := some 0 }).fp 3).lane = some 0 := by decide +kernel

theorem test_witness_FramePulsesAreAssignedAndEnd :
    ((withLane pal 5).lane 0).state ≠ .free ∧ 108 ≤ ((withLane pal 5).lane 0).period ∧ ((withLane pal 5).lane 15).state = .free
      ∧ (((base 0).setFp 3 { FramePulse.reset with level := true, remaining := 1 }).fp 3).level = true
      ∧ (((base 0).setFp 3 { FramePulse.reset with level := true }).fp 3).remaining = 0 ∧ (base 0).src.selected.state = .running := by
  decide +kernel

theorem test_witness_MarkEdgesAreCountedAndCaptured : Spec.mark { armed with filter := 3 } rise :=
  ⟨rfl, rfl, fun _ => rfl, (fun h => by cases h), 16000, by decide, le_refl _⟩
theorem test_witness_MarkEdgesAreCountedAndCaptured_clauses :
    ({ armed with decimation := 2 } : MarkInput).counter + 1 < 2 ∧ armed.decimation ≤ armed.counter + 1 ∧ State.reset.tb.set = false
      ∧ (base 0).tb.set = true ∧ (∃ x ∈ [(⟨0, 9⟩ : Mark)], x.number = armed.nextNumber)
      ∧ (∀ x ∈ [(⟨1, 0⟩ : Mark), ⟨2, 0⟩, ⟨3, 0⟩, ⟨4, 0⟩], x.number ≠ armed.nextNumber) := by decide +kernel

/-- Mark changes that are no edge: the reversal of a too short pulse, and a change held for less than the width. -/
theorem test_witness_MarkEdgesAreCountedAndCaptured_unheard :
    { rise with reversal := true }.reversal = true
      ∧ (({ armed with filter := 3 } : MarkInput).filter, 16000) ∈ [(0, 0), (1, 1000), (2, 4000), (3, 16000)] ∧ { rise with heldNs := 15999 }.heldNs < 16000 := by
  decide +kernel

theorem test_witness_HoldoffsEndAndMarksExpire :
    let s := (base 108000000).setMark 7 { armed with state := .holdoff, fifo := [⟨4, 0⟩] }
    (s.mark 7).state = .holdoff ∧ (s.mark 7).remaining = 0 ∧ s.src.selected.state = .running ∧ (s.mark 7).fifo = [⟨4, 0⟩]
      ∧ (0 : Int) + (s.mark 7).window ≤ s.tb.pt ∧ ((base 107999999).tb.pt : Int) < 0 + (s.mark 7).window := by decide +kernel

theorem test_witness_MarkConfigSetsTheInput :
    (2, EdgeSelect.both) ∈ [(0, EdgeSelect.rising), (1, .falling), (2, .both)] ∧ (base 0).resetLow = false ∧ (7 : Nat) ≤ 7 ∧ (7 : Nat) < 8 := by
  decide +kernel

/-- Every device slot holds a camera but those above `n`. -/
def cameras (n : Nat) : State := (List.range n).foldl (fun s i => s.setDevice i (some camera)) (withLane pal 5)

theorem test_witness_DeviceRegisterTakesTheLowestSlot :
    (∀ n < 32, ((cameras 32).device n).isSome = true) ∧ (cameras 31).device 31 = none ∧ (∀ j < 31, ((cameras 31).device j).isSome = true)
      ∧ ((cameras 31).lane 0).state ≠ .free ∧ ((cameras 31).lane 15).state = .free
      ∧ (3, DeviceKind.suite) ∈ [(0, DeviceKind.camera), (1, .recorder), (2, .slate), (3, .suite)]
      ∧ (∃ n < 32, ∃ d ∈ ((base 0).setDevice 3 (some { camera with input := some 7 })).device n, d.input = some 7) := by decide +kernel

theorem test_witness_DevicesAreRemovedResetAndLost :
    let d := { camera with state := .outOfTolerance, silenceLeft := some 0 }
    ((base 0).setDevice 31 (some d)).device 31 = some d ∧ d.silenceLeft = some 0 ∧ (base 0).src.selected.state = .running
      ∧ (base 0).device 31 = none ∧ 31 < 32 := by decide +kernel

/-- Device 31 with a mark input that holds two marks. -/
def reporting (st : DeviceState) (set : Bool) (lane : LaneState) : State :=
  let s := ((withLane { pal with state := lane } 100).setDevice 31 (some { camera with input := some 7, state := st })).setMark 7
    { armed with fifo := [⟨4, 40⟩, ⟨5, 50⟩] }
  { s with tb := { s.tb with set := set } }

theorem test_witness_ReportsAreRefusedOrIgnored :
    ((reporting .rejamPending true .running).device 31).bind Device.input = some 7
      ∧ ((reporting .rejamPending true .running).mark 7).fifo = [⟨4, 40⟩] ++ ⟨5, 50⟩ :: []
      ∧ ((reporting .rejamPending true .running).lane 0).wellFormed (lab 23 59 59 24 0) = true
      ∧ ((reporting .unseen true .waiting).lane 0).state = .waiting ∧ (reporting .unseen false .running).tb.set = false
      ∧ ((base 0).setMark 7 armed).mark 7 = armed ∧ armed.fifo = [] ∧ (∀ x ∈ [(⟨4, 40⟩ : Mark)], x.number ≠ 5)
      ∧ ((withLane pal 100).setDevice 31 (some { camera with state := .rejamPending })).device 31 ≠ none
      ∧ ((withLane pal 100).lane 0).wellFormed (lab 0 0 0 25 0) = false := by decide +kernel

/-- Device 31 two outliers in, with its newest observation at 0. -/
def stepping : Device :=
  { camera with
    state := .tracking, ring := [⟨0, 0, 0, none, .valid, none⟩], top := 7, offsetEst := some 0, outliers := 2, rejam := some (7, 54) }

/-- An explicit instant, the oldest mark, and a mark by its capture number. -/
theorem test_witness_ReportsBecomeObservations :
    let s := (withLane pal 100).setDevice 31 (some stepping)
    let t := reporting .acquiring true .held
    Spec.instant s s stepping 2 0 100 100 none
      ∧ Spec.instant t (t.setMark 7 { t.mark 7 with fifo := [⟨5, 50⟩] }) { camera with input := some 7 } 0 9 0 40 (some 4)
      ∧ Spec.instant t (t.setMark 7 { t.mark 7 with fifo := [⟨4, 40⟩] }) { camera with input := some 7 } 1 5 0 50 (some 5) :=
  ⟨.inl ⟨rfl, .inl rfl, by decide, rfl, rfl, rfl⟩, .inr ⟨7, ⟨4, 40⟩, [], [⟨5, 50⟩], rfl, rfl, .inl ⟨rfl, rfl⟩, rfl, rfl, rfl⟩,
    .inr ⟨7, ⟨5, 50⟩, [⟨4, 40⟩], [], rfl, rfl, .inr ⟨rfl, rfl, by decide⟩, rfl, rfl, rfl⟩⟩

/-- The rest of what the filed reports ask for, with a label that does not exist and one whose nearest occurrence lies below PT 0. -/
theorem test_witness_ReportsBecomeObservations_filed :
    ((withLane pal 100).setDevice 31 (some stepping)).device 31 = some stepping ∧ pal.wellFormed (lab 0 0 0 0 0) = true ∧ pal.state.mapped = true
      ∧ pal.rateOk ∧ pal.mapping.isSome = true ∧ stepping.state ≠ .rejamPending ∧ (∀ o ∈ stepping.ring.head?, o.pt < 1)
      ∧ drop.labelExists (lab 0 1 0 0 1) = false ∧ drop.masks.invalid = true
      ∧ Spec.place pal (0 + (((pal.countOf (lab 23 59 59 24 0) : Nat) : Int) - 0) % pal.nDay + -1 * pal.nDay) 0 = -2160000
      ∧ stepping.rejam = some (7, 54) ∧ stepping.cue = none ∧ ((withLane pal 100).cue 0) = none ∧ 0 ∉ (withLane pal 100).dues
      ∧ (pal.labelOf (Spec.count pal 25)).ff = 0 ∧ (∀ i ∈ (List.range 23).map (fun i => (i : Int) + 2), (pal.labelOf (Spec.count pal i)).ff ≠ 0)
      ∧ Spec.place pal 25 0 < 2 ^ 64 ∧ (∀ slot < 64, (((List.range 64).foldl (fun s i => s.setCue i (some (high 9))) (withLane pal 100)).cue slot).isSome = true) := by
  decide +kernel

/-- A device whose next report is out of tolerance with a valid drift. -/
theorem test_witness_ReportsBecomeObservations_tolerance :
    let d := { stepping with ring := [⟨1, 0, 0, none, .valid, none⟩], outliers := 0, outlierLimit := 1080000, offsetTol := 0 }
    let s := (withLane pal 540000001).setDevice 31 (some d)
    let t := after (.deviceReport 31 (lab 0 0 10 0 0) 2 0 540000001) s
    (t.device 31).map Device.state = some .rejamPending ∧ (t.cue 0).bind Cue.owner = some 31 ∧ t.dues = [0]
      ∧ (t.flag .deviceTolerance).set = true := by decide +kernel

theorem test_witness_CueAddSetsUpACue :
    (base 100).cue 63 = none ∧ 63 ∉ (base 100).dues ∧ State.reset.tb.set = false ∧ (base 100).tb.pt ≤ 100 ∧ 99 < (base 100).tb.pt
      ∧ (∀ j < 8, ((base 100).line j).holder ≠ some 63) ∧ ((withLane pal 100).lane 0).state = .running
      ∧ pal.labelExists (lab 0 0 0 24 0) = true ∧ pal.rateOk ∧ ((base 0).setCue 63 (some (high 9))).cue 63 ≠ none
      ∧ ((withLane pal 100).lane 15).state = .free := by decide +kernel
/-- A pattern that no label matches, and the lanes on which a cue's conversion is made without a due or with one. -/
theorem test_witness_CueAddSetsUpACue_lanes :
    (1 : Nat) ≠ 255 ∧ drop.labelExists (lab 255 1 0 0 1) = false ∧ drop.masks.invalid = true
      ∧ ({ pal with state := .held } : Lane).state.mapped = true ∧ ({ pal with state := .waiting } : Lane).state ≠ .free
      ∧ pal.mapping.isSome = true ∧ (withLane pal 100).tb.set = true ∧ dropSound.sound.isSome = true
      ∧ (Spec.clampPt (-1125)).toNat = 0 ∧ 0 < (withLane dropSound 100).tb.pt := by decide +kernel
theorem test_witness_CueAddSetsUpACue_action : Spec.action 4 .pulse := by unfold Spec.action; decide

/-- The due list holds slot 7 alone, with a cue of an action and firings. -/
def due (a : Action) (left : Option Nat) (interval : Nat) : State :=
  { (base 500).setCue 7 (some { high 500 with action := a, left := left, interval := interval }) with dues := [7] }

theorem test_witness_CuesFireAtTheirDues :
    (due .pulse (some 1) 0).dues = 7 :: [] ∧ ((due .pulse (some 1) 0).cue 7).bind Cue.due = some 500 ∧ 500 ≤ (due .pulse (some 1) 0).tb.pt
      ∧ (due .pulse (some 1) 0).src.selected.state = .running ∧ ((due .high (some 1) 0).cue 7).map Cue.left = some (some 1)
      ∧ (7 : Nat) ∉ ([] : List Nat) ∧ ((due .toggle none 1).cue 7).map Cue.left = some none ∧ (base 499).tb.pt < 500 ∧ (base 0).dues = []
      ∧ ({ high 500 with state := .pulsing, staged := some ⟨54, 9, .low⟩ } : Cue).state = .pulsing := by decide +kernel

/-- Series that resume: an ABSOLUTE one after two dues passed over, a LABEL one, a wildcard one and a SAMPLE one at their next due. -/
theorem test_witness_fired :
    Spec.resumes (base 1130000000) { high 1000000000 with interval := 54000000, left := some 5 } 1000000000 2 1162000000 none
      ∧ Spec.resumes (withLane pal 1) (labelled 0 1 (some 2)) 0 0 2160000 (some 1)
      ∧ Spec.resumes (withLane pal 1) (wild none) 0 0 2160000 (some 1)
      ∧ Spec.resumes (withLane dropSound 1) (sampled 0 1 none) 0 0 1125 (some 1) := by
  refine ⟨⟨.inr ⟨by show 0 < _; decide, 1108000000, none, ⟨by decide, rfl⟩, by decide⟩, ⟨by decide, rfl⟩, by decide⟩,
    ⟨.inl rfl, ⟨by decide +kernel, fun h => absurd h (by unfold Spec.any; decide), fun _ => ⟨0, 2160000, rfl, ?_, by decide, by decide +kernel⟩⟩, by decide⟩,
    ⟨.inl rfl, ⟨by decide +kernel, fun _ => ⟨[], 1, rfl, ⟨test_witness_search _ rfl, trivial⟩, by decide, by decide⟩,
      fun h => absurd (by unfold Spec.any; decide) h⟩, by decide⟩,
    ⟨.inl rfl, ⟨_, 0, rfl, rfl, by unfold Spec.tick; decide +kernel, rfl⟩, by decide⟩⟩
  exact ⟨⟨0, by decide +kernel⟩, by decide, by decide +kernel⟩

/-- Series that end: the last firings passed over, PT 2^64, sample position 2^47, and an unmasked INEXACT. -/
theorem test_witness_fired_ends :
    Spec.dueAfter (base 200) { high 9 with interval := 50 } 9 1 59 none ∧ (59 : Int) < (base 200).tb.pt
      ∧ Spec.beyond (.absolute 9) (2 ^ 64) none ∧ Spec.beyond (.sample 0 0) 0 (some (2 ^ 47))
      ∧ Spec.whole (withLane { pal with sound := some ⟨false, 1⟩ } 1) (sampled 1 0 none).anchor (some 1) 1127 = false
      ∧ ¬ Spec.masked (withLane { pal with masks := ⟨true, true, false⟩ } 1) (sampled 1 0 none).anchor .inexact :=
  ⟨⟨by decide, rfl⟩, by decide, by show (2 : Int) ^ 64 ≤ _; decide, ⟨2 ^ 47, rfl, le_refl _⟩, by decide +kernel,
    fun h => absurd (h 0 rfl) (by decide +kernel)⟩

/-- Slot 3 PULSING at the end of its pulse on CO1, with an owner. -/
def ending (owner : Option Nat) (left : Option Nat) : State :=
  ((base 0).setCue 3 (some { high 0 with state := .pulsing, action := .pulse, left := left, due := none, owner := owner })).setLine 1
    ⟨false, true, some 3⟩

theorem test_witness_PulsesEndAndCuesAreCancelled :
    ((ending none (some 0)).cue 3).map Cue.state = some .pulsing ∧ ((ending none (some 0)).cue 3).map Cue.remaining = some 0
      ∧ ((ending none (some 1)).cue 3).map Cue.left = some (some 1)
      ∧ ((ending (some 31) (some 0)).cue 3).map Cue.owner = some (some 31)
      ∧ ((ending (some 31) (some 0)).setDevice 31 (some stepping)).device 31 = some stepping ∧ stepping.ring ≠ [] ∧ camera.ring = [] := by
  decide +kernel

theorem test_witness_OutputsAreSetAndCuesModified :
    (base 0).cue 63 = none ∧ ((base 0).setCue 63 (some (high 9))).cue 63 = some (high 9) ∧ (high 9).owner = none ∧ (high 9).line ≠ none
      ∧ ((ending (some 31) (some 0)).cue 3).bind Cue.owner = some 31 ∧ ((ending none (some 0)).cue 3).map Cue.left = some (some 0)
      ∧ (high 9).anchor.wildcard = false := by decide +kernel

end Sys2Proof.Tests
end

section
/-! The attention flags (Chapter 9): what an update of the flags leaves to be read, the model's lists and ATTN level in the words of the
statements, and the statements of R163, R165 and R167. -/

namespace Sys2Proof.Bank

/-- A record of a bank mapped with its numbers. -/
theorem get_mapIdx {α : Type} {n : Nat} (b : Bank α n) (f : Nat → α → α) {i : Nat} (h : i < n) (d : α) :
    (b.mapIdx f).get i d = f i (b.get i d) := by
  have : i < b.list.length := by rw [b.size]; exact h
  simp [get, mapIdx, List.getD_eq_getElem?_getD, this]

end Sys2Proof.Bank

namespace Sys2Proof.Machine

section
variable (s : State)

/-! ### The flags after an update -/

/-- A flag after an update of every flag. -/
theorem State.flagNo_mapFlags (g : Nat → FlagRec → FlagRec) {n : Nat} (h1 : 1 ≤ n) (h24 : n ≤ 24) :
    (s.mapFlags g).flagNo n = g n (s.flagNo n) := by
  have hn : n - 1 + 1 = n := Nat.sub_add_cancel h1
  rw [State.flagNo, State.mapFlags_attn, Bank.get_mapIdx _ _ (by omega), hn, State.flagNo]

/-- A marked flag keeps its set and its enable, and is seen if it was seen or is set (R165). -/
theorem FlagRec.marked_eq (f : FlagRec) : f.marked = { f with seen := f.seen || f.set } := by
  obtain ⟨set, seen, enable⟩ := f
  cases set <;> simp [FlagRec.marked]

/-! ### The lists and the ATTN level of a reply -/

/-- Two properties that agree on the flags' numbers list the same flags. -/
theorem flags_congr {p q : Nat → Bool} (h : ∀ n, 1 ≤ n → n ≤ 24 → p n = q n) : Spec.flags p = Spec.flags q := by
  refine List.filter_congr fun n hn => ?_
  obtain ⟨h1, h24⟩ := List.mem_range'_1.mp hn
  exact h n h1 (by omega)

/-- The model's list of the flags with a property is the statements' list. -/
theorem State.flagsWhere_eq (p : Nat → FlagRec → Bool) : s.flagsWhere p = Spec.flags fun n => p n (s.flagNo n) := rfl

/-- The flags with a property after an update of every flag. -/
theorem State.flagsWhere_mapFlags (g : Nat → FlagRec → FlagRec) (p : Nat → FlagRec → Bool) :
    (s.mapFlags g).flagsWhere p = Spec.flags fun n => p n (g n (s.flagNo n)) :=
  (State.flagsWhere_eq _ p).trans (flags_congr fun n h1 h24 => by rw [s.flagNo_mapFlags g h1 h24])

/-- A flag list of a reply is the statements' list. -/
theorem flagList_eq (l : List Nat) : flagList l = Spec.list l := rfl

/-- ATTN is asserted exactly while one of the flags 1 to 24 is set and enabled (R164). -/
theorem State.attnAsserted_iff :
    s.attnAsserted = true ↔ ∃ n, (1 ≤ n ∧ n ≤ 24) ∧ ((s.flagNo n).set && (s.flagNo n).enable) = true := by
  rw [State.attnAsserted, List.any_eq_true]
  constructor
  · rintro ⟨f, hf, hattn⟩
    obtain ⟨i, hi, rfl⟩ := Bank.exists_get hf .reset
    exact ⟨i + 1, by omega, hattn⟩
  · rintro ⟨n, hn, hattn⟩
    exact ⟨s.flagNo n, Bank.get_mem _ (by omega) _, hattn⟩

/-- The ATTN level of a reply is the statements' level. -/
theorem attnField_eq : attnField s = Spec.attn s := by
  have h : s.attnAsserted = (List.range' 1 24).any fun n => (s.flagNo n).set && (s.flagNo n).enable := by
    rw [Bool.eq_iff_iff, s.attnAsserted_iff, List.any_eq_true]
    simp only [List.mem_range'_1, Nat.lt_succ_iff]
  rw [attnField, indicator, Spec.attn, h]

/-- The lists that a request may carry (section 9.3). -/
theorem flagsAllowed_iff (l : List Nat) : flagsAllowed l = true ↔ l.length ≤ 24 ∧ ∀ n ∈ l, 1 ≤ n ∧ n ≤ 24 := by
  simp [flagsAllowed]

/-! ### The requests outside reset -/

/-- FLAGS is carried out as section 9.3 gives it. -/
theorem exec_flags_eq : exec .flags s = execFlags s := rfl

/-- ATTN_ENABLE is carried out as section 9.3 gives it. -/
theorem exec_attnEnable_eq (l : List Nat) : exec (.attnEnable l) s = execAttnEnable l s := rfl

/-- FLAGS outside reset, with its reply in the statements' words (R165). -/
theorem exec_flags (h : s.resetLow = false) :
    exec .flags s = .next (Spec.ok (s.mapFlags fun _ f => f.marked)
      (Spec.list (Spec.flags fun n => (s.flagNo n).set) ++ Spec.list (Spec.flags fun n => (s.flagNo n).enable) ++ [Spec.attn s])) := by
  have hset : s.setFlags = Spec.flags fun n => (s.flagNo n).set := s.flagsWhere_eq _
  have henabled : s.enabledFlags = Spec.flags fun n => (s.flagNo n).enable := s.flagsWhere_eq _
  rw [exec_flags_eq, execFlags, request_live h, attnField_eq, flagList_eq, flagList_eq, hset, henabled]
  rfl

/-- A request's list of flags that R162 does not allow is refused (section 9.3). -/
theorem exec_attnEnable_refused {l : List Nat} (h : s.resetLow = false) (hl : flagsAllowed l = false) :
    exec (.attnEnable l) s = .next (Spec.no s .badValue) := by
  rw [exec_attnEnable_eq, execAttnEnable, request_live h, hl]
  rfl

/-- ATTN_ENABLE with an allowed list, outside reset: the listed flags, and no others, are enabled (R167). -/
theorem exec_attnEnable_taken {l : List Nat} (h : s.resetLow = false) (hl : flagsAllowed l = true) :
    let t := s.mapFlags fun n f => { f with enable := l.contains n }
    exec (.attnEnable l) s = .next (Spec.ok t
      (Spec.list (Spec.flags fun n => l.contains n) ++ Spec.list (Spec.flags fun n => (s.flagNo n).set) ++ [Spec.attn t])) := by
  intro t
  have henabled : t.enabledFlags = Spec.flags fun n => l.contains n := s.flagsWhere_mapFlags _ _
  have hset : t.setFlags = Spec.flags fun n => (s.flagNo n).set := s.flagsWhere_mapFlags _ _
  rw [exec_attnEnable_eq, execAttnEnable, request_live h, hl, ← henabled, ← hset, ← attnField_eq, ← flagList_eq, ← flagList_eq]
  rfl

end

/-! ### The statements -/

/-- Settles O14, by what a flag reads after a raising. -/
theorem raisingSetsAndUnmarks : Obligations.RaisingSetsAndUnmarks := by
  unfold Obligations.RaisingSetsAndUnmarks
  intro s f
  refine ⟨?_, fun g hg => ?_, rfl⟩
  · rw [flag_raise, if_pos rfl]
  · rw [flag_raise, if_neg hg]

/-- Settles O15: FLAGS maps every flag to its marked form. -/
theorem flagsListsAndMarks : Obligations.FlagsListsAndMarks := by
  unfold Obligations.FlagsListsAndMarks
  intro s h
  exact ⟨_, exec_flags s h, rfl,
    fun n h1 h24 => (s.flagNo_mapFlags (fun _ f => f.marked) h1 h24).trans (FlagRec.marked_eq _), rfl⟩

/-- Settles O17: an allowed list is written as the enables, any other is refused. -/
theorem attnEnableWritesTheEnables : Obligations.AttnEnableWritesTheEnables := by
  unfold Obligations.AttnEnableWritesTheEnables
  intro s l h
  constructor
  · intro hbad
    rw [← flagsAllowed_iff, Bool.not_eq_true] at hbad
    exact exec_attnEnable_refused s h hbad
  · intro hlen hrange
    refine ⟨_, exec_attnEnable_taken s h ((flagsAllowed_iff l).mpr ⟨hlen, hrange⟩), rfl, fun n h1 h24 => ?_, rfl⟩
    rw [← List.contains_eq_mem]
    exact s.flagNo_mapFlags (fun n f => { f with enable := l.contains n }) h1 h24

end Sys2Proof.Machine
end

section
/-! The general requests that only report (section 10.6): what IDENTIFY and STATUS answer, and the statement of R179 and R180. Each field that
the model computes in words of its own is first put in the words of the statement. -/

namespace Sys2Proof.Machine

section
variable (s : State)

/-! ### The fields of a STATUS reply -/

/-- The code of a source is 0 for the crystal and 1 for the external input. -/
theorem sourceCode_eq (which : Source) : sourceCode which = if which = .xo then 0 else 1 := by
  cases which <;> rfl

/-- The stall field is 0 while the selected source is RUNNING, and 1 otherwise. -/
theorem stallField_eq : stallField s = .code (if s.src.selected.state = .running then 0 else 1) := by
  by_cases h : s.src.selected.state = .running <;> simp [stallField, indicator, State.stalled, h]

/-- How many registered devices have a property, as the length of the list of them. -/
theorem State.devicesWith_eq (p : Device → Bool) : s.devicesWith p = (s.devices.list.filter fun d => d.any p).length :=
  List.countP_eq_length_filter

/-- Every registered device counts, and no free slot does. -/
theorem State.devicesWith_true : (s.devicesWith fun _ => true) = (s.devices.list.filter fun d => d.isSome).length := by
  have h : (fun d : Option Device => d.any fun _ => true) = fun d => d.isSome := by
    funext d
    cases d <;> rfl
  rw [s.devicesWith_eq, h]

/-! ### The requests outside reset -/

/-- IDENTIFY is carried out as R179 gives it. -/
theorem exec_identify_eq : exec .identify s = execIdentify s := rfl

/-- STATUS is carried out as R180 gives it. -/
theorem exec_status_eq : exec .status s = execStatus s := rfl

/-- A request that only reports, outside reset: the state with the answer, and nothing else new. -/
theorem request_report {fields : State → List Fld} (h : s.resetLow = false) :
    request (fun s => accept s (fields s)) s = .next (Spec.ok s (fields s)) := request_live h

end

/-! ### The statement -/

/-- Settles O10: both requests only report, and each field of STATUS is the statement's. -/
theorem identifyAndStatusReplies : Obligations.IdentifyAndStatusReplies := by
  unfold Obligations.IdentifyAndStatusReplies
  intro s h
  constructor
  · rw [exec_identify_eq, execIdentify, request_report s h]
  · have hset : s.setFlags = Spec.flags fun n => (s.flagNo n).set := s.flagsWhere_eq _
    have htroubled : (s.devicesWith fun d => d.state.troubled)
        = (s.devices.list.filter fun d => d.any fun x => x.state = .outOfTolerance ∨ x.state = .rejamPending ∨ x.state = .lost).length :=
      s.devicesWith_eq _
    rw [exec_status_eq, execStatus, request_report s h, sourceCode_eq, stallField_eq, s.devicesWith_true, htroubled, hset, attnField_eq,
      List.countP_eq_length_filter, List.countP_eq_length_filter, List.countP_eq_length_filter]
    rfl

end Sys2Proof.Machine
end

section
/-! Power, reset and the control link (Chapter 10): the statements of the queue, of power-on and RESET, of the frame hunter byte by byte and
frame by frame, of the taking of requests, and of RESTART. -/

namespace Sys2Proof.Machine

/-! ### The queue, power and RESET -/

/-- Settles O1: a step is exec of the front command. -/
theorem stepRunsTheFrontCommand : Obligations.StepRunsTheFrontCommand :=
  ⟨fun c _ rest => step_cons _ c rest rfl, step_nil⟩

/-- Settles O2, by the levels of the two straps. -/
theorem powerAndResetLeavePowerOnValues : Obligations.PowerAndResetLeavePowerOnValues := by
  unfold Obligations.PowerAndResetLeavePowerOnValues
  intro s b1 b0
  cases b1 <;> cases b0
  all_goals exact ⟨rfl, fun h => congrArg Host.Outcome.next (if_pos h),
    fun h => congrArg Host.Outcome.next (if_neg (Bool.eq_false_iff.mp h)), rfl⟩

/-- A request is handed to the block that carries it out when it comes by itself, and leaves its answer. -/
theorem serve_request {i : Instr} (h : (requestFields i).isSome = true) (s : State) :
    serve i s = exec i s ∧ ∃ f, exec i s = request f s := by
  refine ⟨?_, ?_⟩
  · cases i
    all_goals first
      | rfl
      | exact absurd h Bool.false_ne_true
  · cases i
    all_goals simp only [exec]
    all_goals first
      | exact ⟨_, rfl⟩
      | exact absurd h Bool.false_ne_true

/-- While RESET is held low a request changes nothing. -/
theorem request_held {f : State → State × Answer} {s : State} (h : s.resetLow = true) : request f s = .next s := by
  rw [request_spec, if_pos h]

/-- Settles O3: every command but the three of power and reset runs only while RESET is high. -/
theorem resetHeldLowHoldsEveryBlock : Obligations.ResetHeldLowHoldsEveryBlock := by
  unfold Obligations.ResetHeldLowHoldsEveryBlock
  intro s c h hpower hassert hrelease
  by_cases hreq : (requestFields c).isSome = true
  · obtain ⟨_, f, hf⟩ := serve_request hreq s
    exact hf.trans (request_held h)
  cases c
  case powerOn b1 b0 => exact absurd rfl (hpower b1 b0)
  case resetAssert => exact absurd rfl hassert
  case resetRelease b1 b0 => exact absurd rfl (hrelease b1 b0)
  all_goals first
    | exact absurd rfl hreq
    | (simp only [exec]; exact live_held h)

/-! ### One byte -/

section
variable {s : State} {b : Byte}

/-- A byte outside reset and outside a break: the hunter moves, and the frame that the byte completes joins the queue. -/
theorem exec_rxdByte (h : s.resetLow = false) (hb : s.link.breakWait = false) :
    exec (.rxdByte b) s
      = .next (joinQueue (s.link.hunter.take b).2 (Spec.line s { s.link with hunter := (s.link.hunter.take b).1, gap := 0 })) :=
by
  rw [exec, execRxdByte, event_live h (by simp [hb])]; rfl

/-- A byte that completes no frame only moves the hunter. -/
theorem exec_rxdByte_moves {h' : Hunter} (h : s.resetLow = false) (hb : s.link.breakWait = false)
    (ht : s.link.hunter.take b = (h', none)) :
    exec (.rxdByte b) s = .next (Spec.line s { s.link with hunter := h', gap := 0 }) := by
  rw [exec_rxdByte h hb, ht]; rfl

/-- A byte that completes a frame returns the hunter to HUNT, and the frame joins the queue or overruns it (R175). -/
theorem exec_rxdByte_completes {fr : Frame} (h : s.resetLow = false) (hb : s.link.breakWait = false)
    (ht : s.link.hunter.take b = (.hunt, some fr)) :
    exec (.rxdByte b) s
      = .next (if s.link.queue.length < 4 then Spec.line s { s.link with hunter := .hunt, gap := 0, queue := s.link.queue ++ [fr] }
          else raise .linkOverrun (Spec.line s { s.link with hunter := .hunt, gap := 0 })) := by
  rw [exec_rxdByte h hb, ht]; rfl

end

/-- The last byte of the CRC completes a frame exactly when the CRC received is the one computed (R172). -/
theorem take_check (len : Nat) (bytes : List Byte) (high b : Byte) :
    (Hunter.check len bytes (some high)).take b
      = (.hunt, if crcBytes (BitVec.ofNat 8 len :: bytes) = [high, b] then some (frameOf bytes) else none) := by
  simp [Hunter.take, crcGood]

/-- Settles O4, by the state of the hunter. -/
theorem eachByteMovesTheHunter : Obligations.EachByteMovesTheHunter := by
  unfold Obligations.EachByteMovesTheHunter
  intro s b h hb moved
  refine ⟨fun hh => ?_, fun hh => ?_, fun len bytes hh hlen => ?_, fun len bytes hh hlen => ?_, fun len bytes hh => ?_,
    fun len bytes high hh => ?_⟩
  · exact exec_rxdByte_moves h hb (by rw [hh]; rfl)
  · exact exec_rxdByte_moves h hb (by rw [hh]; rfl)
  · have : ¬ len ≤ (bytes ++ [b]).length := by simp; omega
    exact exec_rxdByte_moves h hb (by rw [hh, Hunter.take]; simp only [if_neg this])
  · have : len ≤ (bytes ++ [b]).length := by simp; omega
    exact exec_rxdByte_moves h hb (by rw [hh, Hunter.take]; simp only [if_pos this])
  · exact exec_rxdByte_moves h hb (by rw [hh]; rfl)
  · refine ⟨fun hbad => exec_rxdByte_moves h hb (by rw [hh, take_check, if_neg hbad]), fun hgood => ?_⟩
    have hexec := exec_rxdByte_completes h hb (fr := frameOf bytes) (by rw [hh, take_check, if_pos hgood])
    exact ⟨fun hq => by rw [hexec, if_pos hq]; rfl, fun hq => by rw [hexec, if_neg (Nat.not_lt.mpr hq)]⟩

/-! ### A whole frame -/

/-- The state with the hunter in another state, its gap cleared. -/
def hunting (s : State) (h : Hunter) : State := Spec.line s { s.link with hunter := h, gap := 0 }

section
variable {s : State}

/-- Feeding a byte that completes no frame. -/
theorem feed_moves {h h' : Hunter} {b : Byte} {l : List Byte} (hr : s.resetLow = false) (hb : s.link.breakWait = false)
    (ht : h.take b = (h', none)) : Spec.feed (b :: l) (hunting s h) = Spec.feed l (hunting s h') := by
  have : exec (.rxdByte b) (hunting s h) = .next (hunting s h') := exec_rxdByte_moves hr hb ht
  rw [Spec.feed, this]

/-- A collecting hunter collects byte by byte until it holds the length announced. -/
theorem feed_collect {len : Nat} (hr : s.resetLow = false) (hb : s.link.breakWait = false) (b : Byte) (l done : List Byte)
    (rest : List Byte) (hlen : done.length + (b :: l).length = len) :
    Spec.feed (b :: l ++ rest) (hunting s (.collect len done))
      = Spec.feed rest (hunting s (.check len (done ++ b :: l) none)) := by
  induction l generalizing b done with
  | nil =>
    have : len ≤ (done ++ [b]).length := by simp at hlen ⊢; omega
    exact feed_moves hr hb (by rw [Hunter.take]; simp only [if_pos this])
  | cons c l ih =>
    have : ¬ len ≤ (done ++ [b]).length := by simp at hlen ⊢; omega
    rw [List.cons_append, feed_moves hr hb (h' := .collect len (done ++ [b])) (by rw [Hunter.take]; simp only [if_neg this]),
      ih c (done ++ [b]) (by simp at hlen ⊢; omega)]
    simp

/-- The two bytes of a good CRC complete the frame. -/
theorem feed_crc {len : Nat} {bytes : List Byte} (hr : s.resetLow = false) (hb : s.link.breakWait = false) :
    Spec.feed (crcBytes (BitVec.ofNat 8 len :: bytes)) (hunting s (.check len bytes none))
      = .next (if s.link.queue.length < 4 then
            Spec.line s { s.link with hunter := .hunt, gap := 0, queue := s.link.queue ++ [frameOf bytes] }
          else raise .linkOverrun (Spec.line s { s.link with hunter := .hunt, gap := 0 })) := by
  obtain ⟨high, low, hcrc⟩ : ∃ high low, crcBytes (BitVec.ofNat 8 len :: bytes) = [high, low] := ⟨_, _, rfl⟩
  have hlow : (Hunter.check len bytes (some high)).take low = (.hunt, some (frameOf bytes)) := by
    rw [take_check, if_pos hcrc]
  have hexec := exec_rxdByte_completes (s := hunting s (.check len bytes (some high))) hr hb hlow
  rw [hcrc, feed_moves hr hb (h' := .check len bytes (some high)) rfl, Spec.feed, hexec]
  rfl

/-- A frame with a body of at most 252 bytes, fed to a hunter in HUNT. -/
theorem feed_wire (fr : Frame) (hr : s.resetLow = false) (hb : s.link.breakWait = false) (hlen : fr.body.length ≤ 252) :
    Spec.feed fr.wire (hunting s .hunt)
      = .next (if s.link.queue.length < 4 then
            Spec.line s { s.link with hunter := .hunt, gap := 0, queue := s.link.queue ++ [fr] }
          else raise .linkOverrun (Spec.line s { s.link with hunter := .hunt, gap := 0 })) := by
  have hn : (BitVec.ofNat 8 (fr.body.length + 2)).toNat = fr.body.length + 2 := by
    rw [BitVec.toNat_ofNat, Nat.mod_eq_of_lt (by omega)]
  have hlength : Hunter.length.take (BitVec.ofNat 8 (fr.body.length + 2)) = (.collect (fr.body.length + 2) [], none) := by
    rw [Hunter.take, hn, if_pos (by omega)]
  rw [Frame.wire, wireOf, List.cons_append, List.cons_append, feed_moves hr hb (h' := .length) rfl, feed_moves hr hb hlength,
    feed_collect hr hb fr.kind (fr.tag :: fr.body) [] _ (by simp), List.nil_append, feed_crc hr hb]
  rfl

end

/-- Settles O5: the start byte, the length, the collecting of the bytes by induction, and the CRC. -/
theorem everyFrameSentIsRead : Obligations.EveryFrameSentIsRead := by
  unfold Obligations.EveryFrameSentIsRead
  intro s fr hr hb hh hlen
  have hhunt : { s.link with hunter := .hunt } = s.link := by rw [← hh]
  -- the first byte clears the gap and the request being handled, so those of `s` do not matter
  have hstart : Spec.feed fr.wire s = Spec.feed fr.wire (hunting s .hunt) := by
    have h1 : exec (.rxdByte startByte) s = .next (hunting s .length) := exec_rxdByte_moves hr hb (by rw [hh]; rfl)
    have h2 : exec (.rxdByte startByte) (hunting s .hunt) = .next (hunting s .length) := exec_rxdByte_moves hr hb rfl
    rw [Frame.wire, wireOf, List.cons_append, Spec.feed, Spec.feed, h1, h2]
  have hkeep : ({ s.link with hunter := .hunt, gap := 0 } : Link) = { s.link with gap := 0 } :=
    congrArg (fun l : Link => { l with gap := 0 }) hhunt
  have hjoin : ({ s.link with hunter := .hunt, gap := 0, queue := s.link.queue ++ [fr] } : Link)
      = { s.link with gap := 0, queue := s.link.queue ++ [fr] } :=
    congrArg (fun l : Link => { l with gap := 0, queue := s.link.queue ++ [fr] }) hhunt
  rw [hstart, feed_wire fr hr hb hlen, hkeep, hjoin]

/-! ### Errors, breaks and gaps -/

/-- The inter-byte timeouts of R169. -/
theorem timeoutOf_eq {rate timeout : Nat} (h : (rate, timeout) ∈ [(0, 231), (1, 922), (2, 1844), (3, 4000)]) :
    timeoutOf rate = timeout := by
  simp only [List.mem_cons, Prod.mk.injEq, List.not_mem_nil, or_false] at h
  rcases h with ⟨rfl, rfl⟩ | ⟨rfl, rfl⟩ | ⟨rfl, rfl⟩ | ⟨rfl, rfl⟩ <;> rfl

/-- Settles O7: each event by whether it can happen. -/
theorem framesAreAbandonedOnErrorsAndGaps : Obligations.FramesAreAbandonedOnErrorsAndGaps := by
  unfold Obligations.FramesAreAbandonedOnErrorsAndGaps
  intro s h
  refine ⟨fun brk hb => ?_, fun b hb => ?_, fun hb => ?_, fun gap timeout ht hh => ?_, fun gap hh => ?_⟩
  · rw [exec, execFramingError, event_live h (by simp [hb])]; rfl
  · rw [exec, execRxdByte, event_idle (by simp [hb])]
  · rw [exec, execRxdReturnsHigh, event_live h hb]; rfl
  · rw [exec, execInterByteTimeout, event_live h (by simp [hh]), ← timeoutOf_eq ht]; rfl
  · rw [exec, execInterByteTimeout, event_idle (by simp [hh])]

/-! ### Requests taken and answered -/

/-- What a frame is read as is a request. -/
theorem commandOf_request {kind : Nat} {v : List Fld} {i : Instr} (h : commandOf kind v = some i) : (requestFields i).isSome = true := by
  unfold commandOf at h
  dsimp only at h
  split at h
  case h_23 => split at h <;> [skip; split at h <;> [skip; split at h]] <;> cases h <;> rfl
  all_goals cases h <;> rfl

/-- The kinds of the table lie below 0x80. -/
theorem layout_kind_lt {kind : Nat} {body : List Byte} {l : List Cls} (h : layout kind body = some l) : kind < 0x80 := by
  unfold layout at h
  split at h <;> first | omega | cases h

/-- A frame judged to be a command holds a request of a kind below 0x80. -/
theorem judge_command {fr : Frame} {i : Instr} (h : judge fr = .command i) :
    (requestFields i).isSome = true ∧ fr.kind.toNat < 0x80 := by
  unfold judge at h
  dsimp only at h
  split at h
  · cases h
  · rename_i l hl
    split at h
    · split at h
      · rename_i j hj
        cases h
        exact ⟨commandOf_request hj, layout_kind_lt hl⟩
      · cases h
    · cases h

/-- A frame judged to be malformed is of a kind below 0x80. -/
theorem judge_malformed {fr : Frame} (h : judge fr = .malformed) : fr.kind.toNat < 0x80 := by
  unfold judge at h
  dsimp only at h
  split at h
  · cases h
  · rename_i l hl
    exact layout_kind_lt hl

/-- A reply that is formed begins at once where none is in transmission. -/
theorem formed_eq (l : Link) (r : Reply) :
    l.formed r = if l.sending = none then { l with sending := some r } else { l with waiting := some r } := by
  unfold Link.formed
  cases h : l.sending <;> simp

/-- REQUEST_TAKE where a request can be taken: the frame is handled and its answer sent. -/
theorem exec_requestTake {s : State} {fr : Frame} {rest : List Frame} (h : s.resetLow = false) (hq : s.link.queue = fr :: rest)
    (hw : s.link.waiting = none) (hr : s.link.restart ≠ .due) :
    let t := handle fr { s with link := { s.link with queue := rest, handling := some fr } }
    exec .requestTake s = .next (t.setLink (t.link.formed (replyTo fr (t.answer.getD ⟨.ok, []⟩)))) := by
  have htake : s.link.canTake = true := by simp [Link.canTake, hq, hw, hr]
  have htaken : s.link.taken = { s.link with queue := rest, handling := some fr } := by simp [Link.taken, hq]
  rw [exec, execRequestTake, event_live h htake, takeRequest, hq, List.head?_cons]
  simp only [htaken]
  rfl

/-- Settles O8, by what the frame is judged to be. -/
theorem requestsAreTakenAndAnswered : Obligations.RequestsAreTakenAndAnswered := by
  unfold Obligations.RequestsAreTakenAndAnswered
  intro s h
  refine ⟨fun hno => ?_, fun fr rest hq hw hr => ?_⟩
  · rw [exec, execRequestTake, event_idle]
    rcases hno with hno | hno | hno
    · simp [Link.canTake, hno]
    · simp [Link.canTake, Option.isSome_iff_ne_none.mp hno]
    · simp [Link.canTake, hno]
  intro s' send
  have hsend : ∀ (t : State) (r : Reply), t.setLink (t.link.formed r) = send t r := fun t r => by
    simp only [formed_eq, send]; rfl
  have htake := exec_requestTake h hq hw hr
  refine ⟨fun i hi => ?_, fun hm => ?_, fun hu => ?_⟩
  · obtain ⟨hreq, hkind⟩ := judge_command hi
    obtain ⟨hserve, f, hf⟩ := serve_request hreq s'
    have hnext : exec i s' = .next { (f s').1 with answer := some (f s').2 } := hf.trans (request_live h)
    have hhandle : handle fr s' = { (f s').1 with answer := some (f s').2 } := by
      simp only [handle, hi, hserve, hnext, stateAfter]
    refine ⟨_, (f s').2, hnext, rfl, ?_⟩
    rw [htake, hsend, hhandle]
    simp only [replyTo, replyKind, if_pos hkind, Option.getD_some]
  · have hhandle : handle fr s' = Spec.no s' .malformed := by simp only [handle, hm, Spec.no]
    rw [htake, hsend, hhandle]
    simp only [replyTo, replyKind, if_pos (judge_malformed hm)]
    rfl
  · have hhandle : handle fr s' = Spec.no s' .unknownKind := by simp only [handle, hu, Spec.no]
    rw [htake, hsend, hhandle]
    rfl

/-! ### RESTART -/

/-- A RESTART taken is due at once where no reply is in transmission, and stays due where it was (R182). -/
theorem restarting_eq (l : Link) :
    l.restarting = { l with restart := if l.sending = none ∨ l.restart = .due then .due else .taken } := by
  simp only [Link.restarting, Option.isNone_iff_eq_none]

/-- Settles O9: the end of a reply, the taking of RESTART and its effect, each read off its definition. -/
theorem restartActsWhenItsReplyBegins : Obligations.RestartActsWhenItsReplyBegins := by
  unfold Obligations.RestartActsWhenItsReplyBegins
  intro s h
  refine ⟨fun hs => ?_, ?_, fun hd => ?_⟩
  · rw [exec, execReplySent, event_live h hs]; rfl
  · rw [exec, execRestart, request_live h, restarting_eq]; rfl
  · rw [exec, execRestartEffect, event_live h (by simp [hd])]; rfl

end Sys2Proof.Machine
end

section
/-! ACK (section 9.3) and the clock sources (Chapter 2), with the counting of PT (section 4.2). -/

namespace Sys2Proof.Machine

/-! ### ACK -/

section
variable (s : State)

/-- ACK with a list that R162 does not allow is refused (section 9.3). -/
theorem exec_ack_refused {l : List Nat} (h : s.resetLow = false) (hl : flagsAllowed l = false) :
    exec (.ack l) s = .next (Spec.no s .badValue) := by
  rw [exec, execAck, request_live h, hl]; rfl

/-- ACK with an allowed list, outside reset: the listed flags that are set and seen are acknowledged (R166). -/
theorem exec_ack_taken {l : List Nat} (h : s.resetLow = false) (hl : flagsAllowed l = true) :
    let t := s.mapFlags fun n f => if l.contains n then f.acked else f
    exec (.ack l) s = .next (Spec.ok t
      (Spec.list (Spec.flags fun n => l.contains n && (s.flagNo n).set && (s.flagNo n).seen)
        ++ Spec.list (Spec.flags fun n => l.contains n && (s.flagNo n).set && !(s.flagNo n).seen) ++ [Spec.attn t])) := by
  intro t
  rw [exec, execAck, request_live h, hl, ← attnField_eq]
  rfl

/-- A flag that is set and seen becomes clear when it is acknowledged, and another stays (R166). -/
theorem FlagRec.acked_eq (f : FlagRec) :
    f.acked = if f.set = true ∧ f.seen = true then { f with set := false, seen := false } else f := by
  simp only [FlagRec.acked, Bool.and_eq_true]

end

/-- Settles O16: an allowed list acknowledges each flag it names, any other is refused. -/
theorem ackClearsWhatWasSeen : Obligations.AckClearsWhatWasSeen := by
  unfold Obligations.AckClearsWhatWasSeen
  intro s l h
  constructor
  · intro hbad
    rw [← flagsAllowed_iff, Bool.not_eq_true] at hbad
    exact exec_ack_refused s h hbad
  · intro hlen hrange
    refine ⟨_, exec_ack_taken s h ((flagsAllowed_iff l).mpr ⟨hlen, hrange⟩), rfl, fun n h1 h24 => ?_, rfl⟩
    refine (s.flagNo_mapFlags (fun n f => if l.contains n then f.acked else f) h1 h24).trans ?_
    by_cases hn : n ∈ l
    · simp [hn, FlagRec.acked_eq]
    · simp [hn]

/-! ### Configuring and selecting sources -/

/-- A record switched on, as R31's and R32's tables give it. -/
theorem SourceRec.switchedOn_eq (r : SourceRec) (wait : Nat) :
    r.switchedOn wait
      = if r.state = .off then { r with enable := true, state := .starting, progress := 0, wait := wait }
        else if r.state = .starting ∧ wait ≠ r.wait then { r with wait := wait, progress := 0 }
        else { r with wait := wait } := by
  unfold SourceRec.switchedOn
  cases h : r.state
  case starting => by_cases hw : wait = r.wait <;> simp [hw]
  all_goals simp

/-- The record that a SOURCE_CONFIG leaves holds the wait code sent. -/
theorem SourceRec.switchedOn_wait (r : SourceRec) (wait : Nat) : (r.switchedOn wait).wait = wait := by
  rw [switchedOn_eq]; split_ifs <;> rfl

/-- Settles O18: the refusals in order, and then the record by the source and the enable. -/
theorem sourceConfigWritesEnableAndWait : Obligations.SourceConfigWritesEnableAndWait := by
  unfold Obligations.SourceConfigWritesEnableAndWait
  intro s n en wait h
  refine ⟨fun hbad => ?_, fun hn hen hw => ⟨fun he hsel => ?_, fun hgo => ?_⟩⟩
  · rw [exec, execSourceConfig, request_live h, if_pos hbad]; rfl
  · have hok : ¬ (1 < n ∨ 1 < en ∨ 3 < wait) := by omega
    have hin : en = 0 ∧ s.src.selection = sourceOf n := ⟨he, hsel⟩
    rw [exec, execSourceConfig, request_live h]
    simp only [if_neg hok, if_pos hin]; rfl
  · intro r'
    have hok : ¬ (1 < n ∨ 1 < en ∨ 3 < wait) := by omega
    have hin : ¬ (en = 0 ∧ s.src.selection = sourceOf n) := fun hno => hgo.elim (by omega) fun hne => hne hno.2
    have hr' : (if en = 1 then (s.src.of (sourceOf n)).switchedOn wait else (s.src.of (sourceOf n)).switchedOff wait) = r' := by
      rcases (show en = 0 ∨ en = 1 by omega) with rfl | rfl
      · rfl
      · exact SourceRec.switchedOn_eq _ wait
    have hwait : r'.wait = wait := by
      rw [← hr']; split_ifs
      · exact SourceRec.switchedOn_wait _ wait
      · rfl
    rw [exec, execSourceConfig, request_live h]
    simp only [if_neg hok, if_neg hin, hr', hwait]
    clear_value r'
    rcases (show en = 0 ∨ en = 1 by omega) with rfl | rfl <;> rcases (show n = 0 ∨ n = 1 by omega) with rfl | rfl <;> rfl

/-- The trim's clamp in the words of the statements. -/
theorem clampTrim_eq (v : Int) : clampTrim v = Spec.trim v := by
  unfold clampTrim clampInt Spec.trim; split_ifs <;> omega

/-- A source change, in the words of the statements (R34). -/
theorem sourceChanged_eq (t : Timebase) (cal : Int) : t.sourceChanged cal = Spec.sourceChange t cal := by
  unfold Timebase.sourceChanged Spec.sourceChange Timebase.toLocking
  cases t.state <;> simp [clampTrim_eq]

/-- A change of the selection, and the trim of the new source handed to the Timebase (R34). -/
theorem changeSource_eq (which : Source) (s : State) :
    changeSource which s
      = { s with src := { s.src with selection := which }, tb := Spec.sourceChange s.tb (s.src.of which).cal } := by
  rw [changeSource, sourceChanged_eq]
  cases which <;> rfl

/-- The stall field by the selected source. -/
theorem stallField_running {s : State} (h : s.src.selected.state = .running) : stallField s = .code 0 := by
  rw [stallField_eq, if_pos h]

/-- Settles O19, by the selection and the state of the named source. -/
theorem sourceSelectChangesTheSource : Obligations.SourceSelectChangesTheSource := by
  unfold Obligations.SourceSelectChangesTheSource
  intro s n h
  refine ⟨fun hn => ?_, fun hn => ⟨fun hsel => ?_, fun hsel hrun => ?_, fun hsel hrun => ?_⟩⟩
  all_goals rw [exec, execSourceSelect, request_live h]
  · rw [if_pos hn]; rfl
  · have hsel' : s.src.selection = sourceOf n := hsel
    have hok : ¬ 1 < n := by omega
    simp only [if_neg hok, if_pos hsel']
    rw [stallField_eq, Sources.selected, hsel]; rfl
  · have hsel' : ¬ s.src.selection = sourceOf n := hsel
    have hrun' : (s.src.of (sourceOf n)).state = .running := hrun
    have hstall : stallField (changeSource (sourceOf n) s) = .code 0 :=
      stallField_running (s := changeSource (sourceOf n) s) (by cases hn : sourceOf n <;> rw [hn] at hrun' <;> exact hrun')
    have hok : ¬ 1 < n := by omega
    simp only [if_neg hok, if_neg hsel', if_pos hrun', hstall]
    rw [changeSource_eq]; rfl
  · have hsel' : ¬ s.src.selection = sourceOf n := hsel
    have hrun' : ¬ (s.src.of (sourceOf n)).state = .running := hrun
    have hok : ¬ 1 < n := by omega
    simp only [if_neg hok, if_neg hsel', if_neg hrun']; rfl

/-- Settles O20: the clamp, the store, and in FREERUN on the selected source the Timebase with it. -/
theorem trimCalStoresTheClampedTrim : Obligations.TrimCalStoresTheClampedTrim := by
  unfold Obligations.TrimCalStoresTheClampedTrim
  intro s n v h
  refine ⟨fun hn => ?_, fun hn => ?_⟩
  · rw [exec, execTrimCal, request_live h, if_pos hn]; rfl
  · have hok : ¬ 1 < n := by omega
    rw [exec, execTrimCal, request_live h]
    simp only [if_neg hok, clampTrim_eq]
    by_cases hfree : s.src.selection = Spec.source n ∧ s.tb.state = .freerun
    · have hfree' : s.src.selection = sourceOf n ∧ s.tb.state = .freerun := hfree
      simp only [if_pos hfree, if_pos hfree']
      rcases (show n = 0 ∨ n = 1 by omega) with rfl | rfl <;> rfl
    · have hfree' : ¬ (s.src.selection = sourceOf n ∧ s.tb.state = .freerun) := hfree
      simp only [if_neg hfree, if_neg hfree']
      rcases (show n = 0 ∨ n = 1 by omega) with rfl | rfl <;> rfl

/-! ### The stabilization wait, activity and fallback -/

section
variable {s : State}

/-- What runs outside reset. -/
theorem live_next {f : State → State} (h : s.resetLow = false) : live f s = .next (f s) := by
  simp [live, h]

/-- A source that is not RUNNING does not drive PT. -/
theorem countIfDriving_of_not_running {which : Source} (h : (s.src.of which).state ≠ .running) : countIfDriving which s = s := by
  rw [countIfDriving, if_neg fun hc => h hc.2]

/-- A source that is not selected does not drive PT. -/
theorem countIfDriving_of_not_selected {which : Source} (h : s.src.selection ≠ which) : countIfDriving which s = s := by
  rw [countIfDriving, if_neg fun hc => h hc.1]

/-- A cycle of XO, outside reset. -/
theorem exec_cycle_xo (h : s.resetLow = false) :
    exec (.sourceCycle .xo) s = .next (countIfDriving .xo (s.setSrc { s.src with xo := s.src.xo.cycled })) := by
  rw [exec, execSourceCycle, live_next h]

/-- A cycle of EXT in STARTING or RUNNING, outside reset. -/
theorem exec_cycle_ext (h : s.resetLow = false) (hoff : s.src.ext.state ≠ .off) (hfailed : s.src.ext.state ≠ .failed) :
    exec (.sourceCycle .ext) s
      = .next (countIfDriving .ext (s.setSrc { s.src with ext := s.src.ext.cycled, missing := 0 })) := by
  rw [exec, execSourceCycle, live_next h]
  simp only [if_neg hoff, if_neg hfailed]

/-- A cycle in STARTING adds one to the progress. -/
theorem SourceRec.cycled_starting {r : SourceRec} (h : r.state = .starting) : r.cycled = { r with progress := r.progress + 1 } := by
  rw [SourceRec.cycled, if_pos h]

/-- A cycle in any other state leaves the record. -/
theorem SourceRec.cycled_of_not_starting {r : SourceRec} (h : r.state ≠ .starting) : r.cycled = r := by
  rw [SourceRec.cycled, if_neg h]

/-- The end of a stabilization wait, outside reset. -/
theorem exec_startingToRunning {which : Source} (h : s.resetLow = false) (hs : (s.src.of which).state = .starting)
    (hp : waitCycles which (s.src.of which).wait ≤ (s.src.of which).progress) :
    exec (.startingToRunning which) s
      = .next (raise .sourceReady (s.setSrc (s.src.setRec which { s.src.of which with state := .running, progress := 0 }))) := by
  rw [exec, execStartingToRunning, event_live h (by simp [hs, hp])]

end

/-- XO's counts of the wait codes (R27). -/
theorem waitCycles_xo {wait cycles : Nat} (h : (wait, cycles) ∈ [(0, 270000), (1, 540000), (2, 1080000), (3, 2160000)]) :
    waitCycles .xo wait = cycles := by
  simp only [List.mem_cons, Prod.mk.injEq, List.not_mem_nil, or_false] at h
  rcases h with ⟨rfl, rfl⟩ | ⟨rfl, rfl⟩ | ⟨rfl, rfl⟩ | ⟨rfl, rfl⟩ <;> rfl

/-- EXT's counts of the wait codes (R27). -/
theorem waitCycles_ext {wait cycles : Nat} (h : (wait, cycles) ∈ [(0, 50000), (1, 100000), (2, 200000), (3, 400000)]) :
    waitCycles .ext wait = cycles := by
  simp only [List.mem_cons, Prod.mk.injEq, List.not_mem_nil, or_false] at h
  rcases h with ⟨rfl, rfl⟩ | ⟨rfl, rfl⟩ | ⟨rfl, rfl⟩ | ⟨rfl, rfl⟩ <;> rfl

/-- Settles O21: a cycle in STARTING drives nothing, and the wait ends at its count. -/
theorem stabilizationWaitEndsInRunning : Obligations.StabilizationWaitEndsInRunning := by
  unfold Obligations.StabilizationWaitEndsInRunning
  intro s h
  refine ⟨fun hs => ?_, fun hs => ?_, fun wait cycles hw hs hwait hp => ?_, fun wait cycles hw hs hwait hp => ?_⟩
  · rw [exec_cycle_xo h, SourceRec.cycled_starting hs, countIfDriving_of_not_running (by simp [Sources.of, hs])]; rfl
  · rw [exec_cycle_ext h (by simp [hs]) (by simp [hs]), SourceRec.cycled_starting hs,
      countIfDriving_of_not_running (by simp [Sources.of, hs])]; rfl
  · exact exec_startingToRunning h hs (by rw [← waitCycles_xo hw, ← hwait] at hp; exact hp)
  · exact exec_startingToRunning h hs (by rw [← waitCycles_ext hw, ← hwait] at hp; exact hp)

section
variable {s : State}

/-- EXT's loss while XO is selected (R29). -/
theorem loseExt_of_xo (hsel : s.src.selection = .xo) :
    loseExt s = raise .sourceFailed (s.setSrc { s.src with ext := { s.src.ext with state := .failed, progress := 0 } }) := by
  unfold loseExt
  dsimp only
  rw [if_neg]
  simp [hsel]

/-- EXT's loss while it is selected: the fallback to XO (R36, R37). -/
theorem loseExt_of_ext (hsel : s.src.selection = .ext) :
    loseExt s
      = changeSource .xo
          ((raiseIf (decide (s.src.xo.state ≠ .running)) .ptStall (raise .sourceFallback (raise .sourceFailed s))).setSrc
            { s.src with xo := s.src.xo.fallback, ext := { s.src.ext with state := .failed, progress := 0 } }) := by
  unfold loseExt
  dsimp only
  rw [if_pos]
  · by_cases hr : s.src.xo.state = .running
    · simp only [raise_src, State.setSrc_src, hr, ne_eq, not_true_eq_false, decide_false, raiseIf_false]; rfl
    · simp only [raise_src, State.setSrc_src, hr, ne_eq, not_false_eq_true, decide_true, raiseIf_true]; rfl
  · simp [hsel]

end

/-- Settles O23: each event by its guard, and a cycle by the state and the selection. -/
theorem extActivityIsWatched : Obligations.ExtActivityIsWatched := by
  unfold Obligations.ExtActivityIsWatched
  intro s h
  refine ⟨fun he => ?_, fun hm hs hsel => ?_, fun hf => ?_, fun hf => ?_, fun hr hsel => ?_, fun hr hsel => ?_, fun hoff => ?_,
    fun hoff => ?_⟩
  · rw [exec, execExtMissingCycle, event_live h he]; rfl
  · rw [exec, execExtActivityLoss, event_live h (by simp [hm, hs]), loseExt_of_xo hsel]; rfl
  · rw [exec, execExtActivityReturn, event_live h (by simp [hf])]; rfl
  · have hoff : ¬ s.src.ext.state = .off := by simp [hf]
    rw [exec, execSourceCycle, live_next h]
    simp only [if_neg hoff, if_pos hf]; rfl
  · rw [exec_cycle_ext h (by simp [hr]) (by simp [hr]), SourceRec.cycled_of_not_starting (by simp [hr]),
      countIfDriving_of_not_selected (by simp [hsel])]; rfl
  · rw [exec_cycle_xo h, SourceRec.cycled_of_not_starting (by simp [hr]), countIfDriving_of_not_selected (by simp [hsel])]; rfl
  · rw [exec, execSourceCycle, live_next h]
    simp only [if_pos hoff]
  · rw [exec_cycle_xo h, SourceRec.cycled_of_not_starting (by simp [hoff]),
      countIfDriving_of_not_running (by simp [Sources.of, hoff])]; rfl

/-- Settles O24: the flags by XO's state, and the source change to XO. -/
theorem fallbackSelectsXo : Obligations.FallbackSelectsXo := by
  unfold Obligations.FallbackSelectsXo
  intro s h hm hs hsel xo flagged
  rw [exec, execExtActivityLoss, event_live h (by simp [hm, hs]), loseExt_of_ext hsel, changeSource_eq]
  have hcal : s.src.xo.fallback.cal = s.src.xo.cal := by rw [SourceRec.fallback]; split <;> rfl
  have htb : Spec.sourceChange s.tb s.src.xo.cal = Spec.sourceChange s.tb s.src.xo.fallback.cal := by rw [hcal]
  rw [htb]
  by_cases hr : s.src.xo.state = .running
  · have hf : decide (s.src.xo.state ≠ .running) = false := by simp [hr]
    rw [hf, if_pos hr]; rfl
  · have hf : decide (s.src.xo.state ≠ .running) = true := by simp [hr]
    rw [hf, if_neg hr]; rfl

/-! ### Counting PT -/

/-- Ticks that do not carry PT past its end are counted exactly, and every duration measured in PT with them (R58, R59). -/
theorem countTicks_of_range (n : Nat) (s : State) (h : s.tb.pt + n < ptLimit) :
    countTicks n s
      = { s with
          tb := { s.tb with pt := s.tb.pt + n, elapsed := if s.tb.state = .holdover then s.tb.elapsed + n else s.tb.elapsed }
          fps := s.fps.map (FramePulse.counted n)
          marks := s.marks.map (MarkInput.counted n)
          devices := s.devices.map (Option.map (Device.counted n))
          cues := s.cues.map (Option.map (Cue.counted n)) } := by
  unfold countTicks
  rw [putPt_of_range s (v := s.tb.pt + n) (by omega)]
  rfl

/-- Settles O22: the sum of the fraction and the cycle's amount is split into whole ticks and the fraction kept. -/
theorem cyclesCountExactTicks : Obligations.CyclesCountExactTicks := by
  unfold Obligations.CyclesCountExactTicks
  intro s which h hsel hrun htrim amount hfits
  have hamount : (cycleAmount which s.tb.trim : Int) = amount := by
    cases which <;> exact Int.toNat_of_nonneg (by omega)
  have hsum : ((s.tb.frac + cycleAmount which s.tb.trim : Nat) : Int) = s.tb.frac + amount := by
    rw [← hamount]; exact Int.natCast_add _ _
  refine ⟨(s.tb.frac + cycleAmount which s.tb.trim) / fracUnit, (s.tb.frac + cycleAmount which s.tb.trim) % fracUnit,
    by unfold fracUnit; omega, Nat.mod_lt _ (by decide), ?_⟩
  have hpt : s.tb.pt + (s.tb.frac + cycleAmount which s.tb.trim) / fracUnit < ptLimit := by unfold ptLimit fracUnit; omega
  cases which
  · have hcycled : s.src.xo.cycled = s.src.xo := SourceRec.cycled_of_not_starting (by rw [show s.src.xo.state = _ from hrun]; simp)
    rw [exec_cycle_xo h, hcycled, countIfDriving, if_pos ⟨hsel, hrun⟩]
    exact congrArg Host.Outcome.next (countTicks_of_range _ _ hpt)
  · have hr : s.src.ext.state = .running := hrun
    have hcycled : s.src.ext.cycled = s.src.ext := SourceRec.cycled_of_not_starting (by rw [hr]; simp)
    rw [exec_cycle_ext h (by rw [hr]; simp) (by rw [hr]; simp), hcycled, countIfDriving, if_pos ⟨hsel, hrun⟩]
    exact congrArg Host.Outcome.next (countTicks_of_range _ _ hpt)

end Sys2Proof.Machine
end

section
/-! The house reference (Chapter 3) and the discipline (Chapter 4), as far as no step of PT comes of an edge. -/

namespace Sys2Proof.Machine

/-! ### Arithmetic in the words of the statements -/

/-- A clamp is a minimum and a maximum. -/
theorem clampInt_eq {lo hi : Int} (h : lo ≤ hi) (v : Int) : clampInt lo hi v = max lo (min hi v) := by
  unfold clampInt; split_ifs <;> omega

/-- A clamp of an unsigned value to unsigned bounds. -/
theorem clampNat_natCast {lo hi : Nat} (h : lo ≤ hi) (v : Nat) : clampNat lo hi v = max lo (min hi v) := by
  rw [clampNat, clampInt_eq (by omega)]; omega

/-- A test of a number, as a decision. -/
theorem beq_decide (a b : Nat) : (a == b) = decide (a = b) := by
  rw [Bool.eq_iff_iff]; simp

/-- The phase error is the distance from the nearest multiple of the period, an exact half positive (R52). -/
theorem phase_halfUp (v : Int) {p : Nat} (hp : 0 < p) : Spec.phase v (halfUp v p) p := by
  have hdiv := Int.mul_ediv_add_emod v p
  have hlt := Int.emod_lt_of_pos v (show (0 : Int) < p by omega)
  have hge := Int.emod_nonneg v (show (p : Int) ≠ 0 by omega)
  unfold halfUp Spec.phase
  dsimp only
  split_ifs with h
  · exact ⟨⟨v / p, by rw [mul_comm]; exact hdiv.symm⟩, by omega, h⟩
  · exact ⟨⟨v / p + 1, by rw [add_mul, mul_comm (v / (p : Int))]; omega⟩, by omega, by omega⟩

/-- Every house-capable code has a period above 0. -/
theorem ratePeriod_pos {k : Nat} (h : k ∈ houseCodes) : 0 < ratePeriod k := by
  revert k; decide

/-! ### Edges on REF_IN -/

/-- The widths of the filter codes (R41). -/
theorem filterNs_eq {code width : Nat} (h : (code, width) ∈ [(0, 0), (1, 1000), (2, 4000), (3, 16000)]) : filterNs code = width := by
  simp only [List.mem_cons, Prod.mk.injEq, List.not_mem_nil, or_false] at h
  rcases h with ⟨rfl, rfl⟩ | ⟨rfl, rfl⟩ | ⟨rfl, rfl⟩ | ⟨rfl, rfl⟩ <;> rfl

/-- The widths of the filter codes in ticks (R50). -/
theorem filterTicks_eq {code width : Nat} (h : (code, width) ∈ [(0, 0), (1, 54), (2, 216), (3, 864)]) : filterTicks code = width := by
  simp only [List.mem_cons, Prod.mk.injEq, List.not_mem_nil, or_false] at h
  rcases h with ⟨rfl, rfl⟩ | ⟨rfl, rfl⟩ | ⟨rfl, rfl⟩ | ⟨rfl, rfl⟩ <;> rfl

/-- An edge of the statements is heard. -/
theorem hears_of_edge {r : RefMon} {c : LevelChange} (h : Spec.edge r c) : r.hears c = true := by
  obtain ⟨hrise, habandoned, hreversal, hstalled, width, hwidth, hheld⟩ := h
  have hf := filterNs_eq hwidth
  simp [RefMon.hears, recognized, hrise, habandoned, hreversal, hstalled, hf, hheld]

section
variable {s : State} {c : LevelChange}

/-- The first edge begins a stay in QUALIFYING (R44). -/
theorem exec_refEdge_absent (h : s.resetLow = false) (he : Spec.edge s.ref c) (hst : s.ref.state = .absent) :
    exec (.refEdge c) s = .next (s.setRef (s.ref.restart (some (Spec.adjusted s c)))) := by
  rw [exec, execRefEdge, event_live h (hears_of_edge he)]
  simp only [hst]; rfl

/-- An edge in QUALIFYING. -/
theorem exec_refEdge_qualifying (h : s.resetLow = false) (he : Spec.edge s.ref c) (hst : s.ref.state = .qualifying) :
    exec (.refEdge c) s = .next (qualifyEdge (Spec.adjusted s c) s) := by
  rw [exec, execRefEdge, event_live h (hears_of_edge he)]
  simp only [hst]; rfl

/-- An edge in PRESENT. -/
theorem exec_refEdge_present (h : s.resetLow = false) (he : Spec.edge s.ref c) (hst : s.ref.state = .present) :
    exec (.refEdge c) s = .next (presentEdge (Spec.adjusted s c) s) := by
  rw [exec, execRefEdge, event_live h (hears_of_edge he)]
  simp only [hst]; rfl

end

/-! ### Qualifying -/

/-- The bands of ±150 ppm about the periods do not overlap (R45). -/
theorem fits_unique {t : Int} {j k : Nat} (hj : Spec.fits t j) (hk : Spec.fits t k) : j = k := by
  have apart : ∀ j ∈ houseCodes, ∀ k ∈ houseCodes,
      |(ratePeriod j : Int) - ratePeriod k| * 1000000 ≤ 150 * (ratePeriod j + ratePeriod k) → j = k := by decide
  refine apart j hj.1 k hk.1 ?_
  have htriangle : |(ratePeriod j : Int) - ratePeriod k| ≤ |t - ratePeriod j| + |t - ratePeriod k| := by
    rw [abs_sub_comm t (ratePeriod j : Int)]
    exact abs_sub_le _ _ _
  have h1 := hj.2
  have h2 := hk.2
  omega

/-- The code that a period is found to fit is the one it fits (R45). -/
theorem fitCode_of_fits {t : Int} {k : Nat} (h : Spec.fits t k) : fitCode t = some k := by
  have hsome : (fitCode t).isSome = true := List.find?_isSome.mpr ⟨k, h.1, decide_eq_true h.2⟩
  obtain ⟨j, hj⟩ := Option.isSome_iff_exists.mp hsome
  have hfits : Spec.fits t j := ⟨List.mem_of_find?_eq_some hj, of_decide_eq_true (List.find?_some (p := fun k : Nat =>
    decide (|t - ratePeriod k| * 1000000 ≤ 150 * ratePeriod k)) hj)⟩
  rw [hj, fits_unique hfits h]

/-- A period that fits no rate (R45). -/
theorem fitCode_of_not_fits {t : Int} (h : ∀ k, ¬ Spec.fits t k) : fitCode t = none :=
  List.find?_eq_none.mpr fun k hk hp => h k ⟨hk, of_decide_eq_true hp⟩

/-- The monitor judges a period that fits no rate (R46). -/
theorem RefMon.judgePeriod_unfit {r : RefMon} {t : Int} (h : ∀ k, ¬ Spec.fits t k) :
    r.judgePeriod t = { r with candidate := none, qualify := 0 } := by
  rw [RefMon.judgePeriod, fitCode_of_not_fits h]

/-- The monitor judges a period that fits a rate other than the one expected (R47). -/
theorem RefMon.judgePeriod_mismatch {r : RefMon} {t : Int} {k : Nat} (h : Spec.fits t k) (h0 : r.expected ≠ 0) (hk : r.expected ≠ k) :
    r.judgePeriod t = { r with candidate := some k, qualify := 0, mismatch := true } := by
  have : r.mismatches k = true := by simp [RefMon.mismatches, h0, hk]
  rw [RefMon.judgePeriod, fitCode_of_fits h]
  simp only [this, if_true]

/-- The monitor judges a period that fits a rate allowed: the candidate's, or another (R46). -/
theorem RefMon.judgePeriod_fit {r : RefMon} {t : Int} {k : Nat} (h : Spec.fits t k) (hk : r.expected = 0 ∨ r.expected = k) :
    r.judgePeriod t = if r.candidate = some k then { r with qualify := r.qualify + 1 } else { r with candidate := some k, qualify := 0 } := by
  have : r.mismatches k = false := by
    simp only [RefMon.mismatches, decide_eq_false_iff_not]; omega
  rw [RefMon.judgePeriod, fitCode_of_fits h]
  simp only [this, Bool.false_eq_true, if_false]

/-- The monitor with a measured period and the edge that ended it (R45). -/
def RefMon.measured (r : RefMon) (t adj : Int) : RefMon := { r with lastPeriod := t, prev := some adj }

/-- A further edge in QUALIFYING that leaves the count below 8 (R46, R47). -/
theorem qualifyEdge_below {s : State} {adj before : Int} (hp : s.ref.prev = some before)
    (hq : ((s.ref.measured (adj - before) adj).judgePeriod (adj - before)).qualify < 8) :
    qualifyEdge adj s
      = raiseIf (((s.ref.measured (adj - before) adj).judgePeriod (adj - before)).mismatch && !s.ref.mismatch) .refMismatch
          (s.setRef ((s.ref.measured (adj - before) adj).judgePeriod (adj - before))) := by
  rw [qualifyEdge, hp]
  exact if_neg (by simpa [RefMon.measured] using hq)

/-- Settles O25: what is no edge, the first edge, and each kind of period. -/
theorem periodsQualifyTheRate : Obligations.PeriodsQualifyTheRate := by
  unfold Obligations.PeriodsQualifyTheRate
  intro s c h
  refine ⟨fun hno => ?_, fun he => ?_⟩
  · have hdeaf : s.ref.hears c = false := by
      rcases hno with hno | hno | hno | hno | ⟨width, hwidth, hno⟩
      · simp [RefMon.hears, hno]
      · simp [RefMon.hears, recognized, hno]
      · simp [RefMon.hears, recognized, hno]
      · simp [RefMon.hears, hno]
      · have hf := filterNs_eq hwidth
        simp [RefMon.hears, recognized, hf, hno]
    rw [exec, execRefEdge, event_idle hdeaf]
  intro adj
  refine ⟨fun hst => ?_, fun hst hp => ?_, fun before hst hp => ?_⟩
  · rw [exec_refEdge_absent h he hst]; rfl
  · rw [exec_refEdge_qualifying h he hst, qualifyEdge, hp]; rfl
  intro r
  have hr : r = s.ref.measured (adj - before) adj := rfl
  refine ⟨fun hunfit => ?_, fun k hk hexp hcand hq => ?_, fun k hk hexp hcand => ?_, fun k hk h0 hne => ?_⟩
  all_goals rw [exec_refEdge_qualifying h he hst]
  · have hj := RefMon.judgePeriod_unfit (r := r) hunfit
    rw [qualifyEdge_below hp (by rw [← hr, hj]; exact (by decide : 0 < 8)), ← hr, hj, Bool.and_not_self]; rfl
  · have hj := (RefMon.judgePeriod_fit (r := r) hk hexp).trans (if_pos hcand)
    rw [qualifyEdge_below hp (by rw [← hr, hj]; exact hq), ← hr, hj, Bool.and_not_self]; rfl
  · have hj := (RefMon.judgePeriod_fit (r := r) hk hexp).trans (if_neg hcand)
    rw [qualifyEdge_below hp (by rw [← hr, hj]; exact (by decide : 0 < 8)), ← hr, hj, Bool.and_not_self]; rfl
  · have hj := RefMon.judgePeriod_mismatch (r := r) hk h0 hne
    rw [qualifyEdge_below hp (by rw [← hr, hj]; exact (by decide : 0 < 8)), ← hr, hj, Bool.true_and]
    cases s.ref.mismatch <;> rfl

/-! ### Acceptance -/

/-- The monitor's record of an accepted edge, in the words of the statements (R49, R52). -/
theorem RefMon.accepted_eq (r : RefMon) (adj : Int) :
    r.accepted adj = Spec.accepted r adj (halfUp adj r.housePeriod) r.housePeriod := by
  unfold RefMon.accepted Spec.accepted
  cases r.lastAccepted <;> simp

section
variable {s : State} {x adj : Int} {k : Nat}

/-- The house period while a house rate is held. -/
theorem RefMon.housePeriod_of_house {r : RefMon} (hk : r.house = some k) : r.housePeriod = ratePeriod k := by
  rw [RefMon.housePeriod, hk]; rfl

/-- An edge outside the acceptance window changes nothing (R49). -/
theorem presentEdge_outside (hx : s.ref.expectedPt = some x) (hk : s.ref.house = some k)
    (hout : adj < x - (ratePeriod k / 8 : Nat) ∨ x + (ratePeriod k / 8 : Nat) < adj) : presentEdge adj s = s := by
  rw [presentEdge, if_neg]
  simp only [RefMon.accepts, hx, Option.any_some, RefMon.halfWindow, RefMon.housePeriod_of_house hk, decide_eq_true_eq]
  omega

/-- An edge inside the acceptance window is recorded and handed to the Timebase (R49, R52). -/
theorem presentEdge_inside (hx : s.ref.expectedPt = some x) (hk : s.ref.house = some k)
    (hlo : x - (ratePeriod k / 8 : Nat) ≤ adj) (hhi : adj ≤ x + (ratePeriod k / 8 : Nat)) :
    presentEdge adj s
      = takeEdge (halfUp adj (ratePeriod k)) (ratePeriod k)
          (s.setRef (Spec.accepted s.ref adj (halfUp adj (ratePeriod k)) (ratePeriod k))) := by
  have hp := RefMon.housePeriod_of_house hk
  have hin : s.ref.accepts adj = true := by
    simp only [RefMon.accepts, hx, Option.any_some, RefMon.halfWindow, hp, decide_eq_true_eq]
    exact ⟨hlo, hhi⟩
  have hperiod : (s.ref.accepted adj).housePeriod = ratePeriod k := hp
  rw [presentEdge, if_pos hin]
  dsimp only
  rw [hperiod, RefMon.accepted_eq, hp]
  rfl

end

/-- Settles O27: an edge by the acceptance window, with FREERUN's Timebase taking no action. -/
theorem acceptanceWindowAdmitsEdges : Obligations.AcceptanceWindowAdmitsEdges := by
  unfold Obligations.AcceptanceWindowAdmitsEdges
  intro s c x k h he hst hx hk hcode
  refine ⟨fun hout => ?_, fun hlo hhi hfree => ?_⟩
  · rw [exec_refEdge_present h he hst, presentEdge_outside hx hk hout]
  · refine ⟨_, phase_halfUp _ (ratePeriod_pos hcode), ?_⟩
    rw [exec_refEdge_present h he hst, presentEdge_inside hx hk hlo hhi, takeEdge]
    simp only [State.setRef_tb, hfree]; rfl

/-! ### The loop -/

/-- The loop's update, in the words of the statements (R68). -/
theorem Timebase.loop_eq (t : Timebase) (e : Int) (period : Nat) :
    t.loop e period
      = { t with
          p := -((e * 1000000000).tdiv (16 * period))
          i := Spec.trim (t.i - (e * 1000000000).tdiv (1024 * period))
          trim := Spec.trim (Spec.trim (t.i - (e * 1000000000).tdiv (1024 * period)) + -((e * 1000000000).tdiv (16 * period))) } := by
  unfold Timebase.loop loopQuot
  simp only [clampTrim_eq, Nat.cast_mul, Nat.cast_ofNat]

section
variable {s : State} {e : Int} {period : Nat}

/-- An edge in LOCKING that is not stepped (R67 to R69). -/
theorem takeEdge_locking (hst : s.tb.state = .locking) (hstep : s.tb.steps e = false) :
    takeEdge e period s
      = raiseIf (({ s.tb with entry := false }.loop e period).countIn e).2 .lockAcquired
          (s.setTb (({ s.tb with entry := false }.loop e period).countIn e).1) := by
  rw [takeEdge]
  simp only [hst, hstep, Bool.false_eq_true, if_false]
  rfl

/-- An edge in LOCKED (R68, R70). -/
theorem takeEdge_locked (hst : s.tb.state = .locked) :
    takeEdge e period s
      = raiseIf ((s.tb.loop e period).countOut e).2 .lockLost (s.setTb ((s.tb.loop e period).countOut e).1) := by
  rw [takeEdge]
  simp only [hst]

end

section
variable {t : Timebase} {e : Int}

/-- An edge outside the lock window empties the count in LOCKING (R69). -/
theorem Timebase.countIn_outside (h : t.window < |e|) : t.countIn e = ({ t with inWin := 0 }, false) := by
  rw [countIn, if_neg (not_le.mpr h)]

/-- An edge inside the lock window that is not the sixteenth is counted (R69). -/
theorem Timebase.countIn_counts (h : |e| ≤ t.window) (hin : t.inWin < 15) : t.countIn e = ({ t with inWin := t.inWin + 1 }, false) := by
  rw [countIn, if_pos h, if_neg (by omega)]

/-- The sixteenth edge inside the lock window locks (R69). -/
theorem Timebase.countIn_locks (h : |e| ≤ t.window) (hin : 15 ≤ t.inWin) :
    t.countIn e = ({ t with state := .locked, inWin := 0, outWin := 0 }, true) := by
  rw [countIn, if_pos h, if_pos (by omega)]

/-- An edge within ten lock windows empties the count in LOCKED (R70). -/
theorem Timebase.countOut_inside (h : |e| ≤ 10 * t.window) : t.countOut e = ({ t with outWin := 0 }, false) := by
  rw [countOut, if_neg (not_lt.mpr h)]

/-- An edge beyond ten lock windows that is not the fourth is counted (R70). -/
theorem Timebase.countOut_counts (h : 10 * t.window < |e|) (hout : t.outWin < 3) :
    t.countOut e = ({ t with outWin := t.outWin + 1 }, false) := by
  rw [countOut, if_pos h, if_neg (by omega)]

/-- The fourth edge beyond ten lock windows returns to LOCKING on the loop terms held (R66, R70). -/
theorem Timebase.countOut_unlocks (h : 10 * t.window < |e|) (hout : 3 ≤ t.outWin) : t.countOut e = (t.toLocking t.i t.p, true) := by
  rw [countOut, if_pos h, if_pos (by omega)]

end

/-- Settles O30: the loop's update, and then the count of the state found. -/
theorem acceptedEdgesTrimTheClock : Obligations.AcceptedEdgesTrimTheClock := by
  unfold Obligations.AcceptedEdgesTrimTheClock
  intro s c x k h he hst hx hk hcode adj hlo hhi
  refine ⟨halfUp adj (ratePeriod k), phase_halfUp _ (ratePeriod_pos hcode), ?_⟩
  have hexec := exec_refEdge_present h he hst
  rw [presentEdge_inside hx hk hlo hhi] at hexec
  revert hexec
  change exec (.refEdge c) s = .next (takeEdge (halfUp adj _) _ _) → _
  generalize halfUp adj (ratePeriod k) = e
  intro hexec p i ref tb
  refine ⟨fun hlocking hent => ?_, fun hlocked => ?_⟩
  · have hsteps : (s.setRef ref).tb.steps e = false := by
      rcases hent with hent | hent
      · simp [Timebase.steps, hent]
      · simp [Timebase.steps, not_lt.mpr hent]
    have hedge : exec (.refEdge c) s
        = .next (raiseIf (({ tb with entry := false } : Timebase).countIn e).2 .lockAcquired
            ((s.setRef ref).setTb (({ tb with entry := false } : Timebase).countIn e).1)) := by
      rw [hexec]
      exact congrArg Host.Outcome.next ((takeEdge_locking (s := s.setRef ref) hlocking hsteps).trans (by rw [Timebase.loop_eq]; rfl))
    refine ⟨fun hw => ?_, fun hw hin => ?_, fun hw hin => ?_⟩
    · rw [hedge, Timebase.countIn_outside (t := { tb with entry := false }) hw]; rfl
    · rw [hedge, Timebase.countIn_counts (t := { tb with entry := false }) hw hin]; rfl
    · rw [hedge, Timebase.countIn_locks (t := { tb with entry := false }) hw hin]; rfl
  · have hedge : exec (.refEdge c) s
        = .next (raiseIf (tb.countOut e).2 .lockLost ((s.setRef ref).setTb (tb.countOut e).1)) := by
      rw [hexec]
      exact congrArg Host.Outcome.next ((takeEdge_locked (s := s.setRef ref) hlocked).trans (by rw [Timebase.loop_eq]; rfl))
    refine ⟨fun hw => ?_, fun hw hout => ?_, fun hw hout => ?_⟩
    · rw [hedge, Timebase.countOut_inside (t := tb) hw]; rfl
    · rw [hedge, Timebase.countOut_counts (t := tb) hw hout]; rfl
    · rw [hedge, Timebase.countOut_unlocks (t := tb) hw hout, Timebase.toLocking, clampTrim_eq]; rfl

/-! ### Misses and loss -/

/-- The loss of the reference takes LOCKING and LOCKED to HOLDOVER (R65, R72). -/
theorem Timebase.refLost_eq (t : Timebase) :
    t.refLost
      = if t.state = .locking ∨ t.state = .locked then
          { t with
            refPresent := false, state := .holdover, p := 0, trim := t.i, entry := false, inWin := 0, outWin := 0, elapsed := 0 }
        else { t with refPresent := false } := by
  unfold Timebase.refLost Timebase.toHoldover
  cases h : t.state <;> simp

/-- PT is not stalled exactly while the selected source is RUNNING. -/
theorem stalled_eq_false_iff (s : State) : s.stalled = false ↔ s.src.selected.state = .running := by
  simp [State.stalled]

/-- Settles O28: the guard of a window's close, and the count of the misses. -/
theorem fourMissesLoseTheReference : Obligations.FourMissesLoseTheReference := by
  unfold Obligations.FourMissesLoseTheReference
  intro s x width h hst hx hwidth period close
  have hclosed : s.windowClosed = (!s.stalled && decide (close < s.tb.pt)) := by
    simp only [State.windowClosed, hst, decide_true, Bool.true_and, hx, Option.any_some, RefMon.windowEnd, filterTicks_eq hwidth]
    rfl
  have hexec : close < s.tb.pt → s.src.selected.state = .running → exec .refWindowClose s = .next (missEdge s) := fun hc hr => by
    rw [exec, execRefWindowClose, event_live h]
    rw [hclosed, (stalled_eq_false_iff s).mpr hr]
    simpa using hc
  refine ⟨fun hno => ?_, fun hc hr hm => ?_, fun hc hr hm => ?_⟩
  · rw [exec, execRefWindowClose, event_idle]
    rw [hclosed]
    rcases hno with hno | hno
    · simp [not_lt.mpr hno]
    · simp [State.stalled, hno]
  · rw [hexec hc hr, missEdge]
    simp only [if_neg (show ¬ 4 ≤ s.ref.misses + 1 by omega), hx]
    rfl
  · rw [hexec hc hr, missEdge]
    simp only [if_pos (show 4 ≤ s.ref.misses + 1 by omega), Timebase.refLost_eq]
    rfl

/-! ### Configuring the monitor -/

/-- The largest delay is not negative. -/
theorem delayRange_nonneg (expected : Nat) : 0 ≤ delayRange expected := by
  unfold delayRange; split_ifs <;> omega

/-- The delay as it is taken (R42, R54). -/
def delayTaken (expected : Nat) (delay : Int) : Int := clampInt (-delayRange expected) (delayRange expected) delay

/-- The monitor with its new configuration, its stored times moved by a change of the delay (R55). -/
def RefMon.configured (r : RefMon) (polarity filter : Nat) (delay : Int) (expected : Nat) : RefMon :=
  { r.delayed (delayTaken expected delay - r.delay) with
    falling := decide (polarity = 1), filter := filter, delay := delayTaken expected delay, expected := expected }

/-- A request that changes the polarity or the expected rate (R55). -/
def RefMon.reconfigured (r : RefMon) (polarity expected : Nat) : Prop := r.falling ≠ decide (polarity = 1) ∨ r.expected ≠ expected

/-- A change of the delay moves nothing in ABSENT (R55). -/
theorem RefMon.delayed_absent {r : RefMon} (h : r.state = .absent) (a : Int) : r.delayed a = r := by
  unfold RefMon.delayed
  split
  · rfl
  · simp_all
  · simp_all

/-- A change of the delay moves the previous edge in QUALIFYING (R55). -/
theorem RefMon.delayed_qualifying {r : RefMon} (h : r.state = .qualifying) (a : Int) :
    r.delayed a = { r with prev := r.prev.map (· + a) } := by
  unfold RefMon.delayed
  split
  · simp_all
  · rfl
  · simp_all

/-- A change of the delay moves the accepted edge and the expected PT in PRESENT (R55). -/
theorem RefMon.delayed_present {r : RefMon} (h : r.state = .present) (a : Int) :
    r.delayed a = { r with lastAccepted := r.lastAccepted.map (· + a), expectedPt := r.expectedPt.map (· + a) } := by
  unfold RefMon.delayed
  split
  · simp_all
  · simp_all
  · rfl

/-- A change of the delay leaves the state. -/
theorem RefMon.delayed_state (r : RefMon) (a : Int) : (r.delayed a).state = r.state := by
  unfold RefMon.delayed; split <;> rfl

section
variable {s : State} {pol filter expected : Nat} {delay : Int}

/-- What a REF_CONFIG that is taken leaves: the monitor configured, or restarted too, from PRESENT with the Timebase told (R54, R55). -/
theorem exec_refConfig (h : s.resetLow = false) (hok : ¬ (1 < pol ∨ 3 < filter ∨ 10 < expected)) :
    let r := s.ref.configured pol filter delay expected
    (s.ref.state = .absent ∨ ¬ s.ref.reconfigured pol expected →
        exec (.refConfig pol filter delay expected) s
          = .next (Spec.ok (s.setRef r) (r.configFields ++ [.code s.ref.state.code])))
      ∧ (s.ref.state ≠ .absent → s.ref.reconfigured pol expected →
          exec (.refConfig pol filter delay expected) s
            = .next (Spec.ok
                (if s.ref.state = .present then
                    (s.setRef { r.restart none with expectedPt := none, misses := 0 }).setTb s.tb.refLost
                  else s.setRef { r.restart none with expectedPt := none, misses := 0 })
                (r.configFields ++ [.code RefState.qualifying.code]))) := by
  intro r
  have hpol : (pol == 1) = decide (pol = 1) := beq_decide _ _
  refine ⟨fun hkeep => ?_, fun hst hch => ?_⟩
  · have hno : ((decide (pol = 1) != s.ref.falling || expected != s.ref.expected) && decide (s.ref.state ≠ .absent)) = false := by
      rcases hkeep with hst | hsame
      · simp [hst]
      · simp only [RefMon.reconfigured, not_or, not_not] at hsame
        simp [hsame.1, hsame.2]
    rw [exec, execRefConfig, request_live h]
    simp only [if_neg hok, hpol, hno, Bool.false_eq_true, if_false]
    rw [← s.ref.delayed_state (delayTaken expected delay - s.ref.delay)]
    rfl
  · have hyes : ((decide (pol = 1) != s.ref.falling || expected != s.ref.expected) && decide (s.ref.state ≠ .absent)) = true := by
      rcases hch with hch | hch
      · simp [hst, bne_iff_ne, ne_comm.mp hch]
      · simp [hst, bne_iff_ne, ne_comm.mp hch]
    rw [exec, execRefConfig, request_live h]
    simp only [if_neg hok, hpol, hyes, if_true]
    by_cases hp : s.ref.state = .present
    · simp only [if_pos hp]; rfl
    · simp only [if_neg hp]; rfl

/-- The configuration's fields of a reply, as the request carries them. -/
theorem RefMon.configFields_configured (r : RefMon) (hpol : pol ≤ 1) :
    (r.configured pol filter delay expected).configFields
      = [.code pol, .code filter, .ticks (delayTaken expected delay), .code expected] := by
  rcases (show pol = 0 ∨ pol = 1 by omega) with rfl | rfl <;> rfl

end

/-- Settles O29, by the state of the monitor and whether the polarity or the rate changes. -/
theorem refConfigRestartsOrMoves : Obligations.RefConfigRestartsOrMoves := by
  unfold Obligations.RefConfigRestartsOrMoves
  intro s pol filter expected delay h
  refine ⟨fun hbad => ?_, fun hpol hfilter hexp => ?_⟩
  · rw [exec, execRefConfig, request_live h, if_pos hbad]; rfl
  intro range d r fields changed restarted
  obtain ⟨hkeep, hrestart⟩ := exec_refConfig (delay := delay) h (show ¬ (1 < pol ∨ 3 < filter ∨ 10 < expected) by omega)
  have hd : delayTaken expected delay = d := clampInt_eq (by have := delayRange_nonneg expected; omega) _
  rw [RefMon.configFields_configured s.ref hpol, hd] at hkeep hrestart
  have hconf : s.ref.configured pol filter delay expected
      = { s.ref.delayed (d - s.ref.delay) with falling := decide (pol = 1), filter := filter, delay := d, expected := expected } := by
    rw [RefMon.configured, hd]
  rw [hconf] at hkeep hrestart
  have hcode : ∀ st, s.ref.state = st → [Fld.code s.ref.state.code] = [.code st.code] := fun st hst => by rw [hst]
  refine ⟨fun hst => ?_, fun hst hch hx hm => ?_, fun hst hch => ?_, fun hst hch => ?_, fun hst hch => ?_⟩
  · rw [hkeep (.inl hst), hcode _ hst, RefMon.delayed_absent hst]; rfl
  · rw [hrestart (by simp [hst]) hch, if_neg (by simp [hst])]
    simp [RefMon.delayed, RefMon.restart, hst, hx, hm, restarted, r, State.setRef, fields]
  · rw [hkeep (.inr hch), hcode _ hst, RefMon.delayed_qualifying hst]; rfl
  · rw [hkeep (.inr hch), hcode _ hst, RefMon.delayed_present hst]; rfl
  · rw [hrestart (by simp [hst]) hch, if_pos hst, Timebase.refLost_eq, RefMon.delayed_present hst]; rfl

/-! ### Switching the discipline -/

section
variable {s : State} {en limit : Nat} {window threshold : Int}

/-- The Timebase with its new settings (R75). -/
def Timebase.settled (t : Timebase) (window threshold : Int) (limit : Nat) : Timebase :=
  { t with
    window := max 27 (min 27000 window), threshold := max 540 (min 540000 threshold), limit := max 10 (min 86400 limit) }

/-- What a DISCIPLINE_CONFIG that is taken leaves, with the Timebase as the change of the enable leaves it (R75, R76). -/
theorem exec_disciplineConfig (h : s.resetLow = false) (hen : en ≤ 1) {t : Timebase}
    (ht : (s.tb.settled window threshold limit).switched (decide (en = 1)) s.selectedCal = t)
    {st : DiscState} (hst : t.state = st) :
    let fields := fun (t : Timebase) (st : DiscState) => [indicator t.enable] ++ t.settingFields ++ [.code st.code]
    let expired := t.toFreerun s.selectedCal
    (t.overLimit = false →
        exec (.disciplineConfig en window threshold limit) s = .next (Spec.ok (s.setTb t) (fields t st)))
      ∧ (t.overLimit = true →
          exec (.disciplineConfig en window threshold limit) s
            = .next (Spec.ok (raise .holdoverExpired (s.setTb expired)) (fields expired .freerun))) := by
  subst hst
  have hset : ({ s.tb with
      window := clampInt 27 27000 window, threshold := clampInt 540 540000 threshold, limit := clampNat 10 86400 limit } : Timebase)
      = s.tb.settled window threshold limit := by
    rw [clampInt_eq (by omega), clampInt_eq (by omega), clampNat_natCast (by omega)]; rfl
  intro fields expired
  refine ⟨fun hover => ?_, fun hover => ?_⟩
  all_goals
    rw [exec, execDisciplineConfig, request_live h]
    simp only [if_neg (show ¬ 1 < en by omega), hset, beq_decide, ht, State.setTb_tb, hover, if_true, Bool.false_eq_true, if_false]
    rfl

end

/-- A Timebase that is not in HOLDOVER is not over its limit. -/
theorem Timebase.overLimit_of_not_holdover {t : Timebase} (h : t.state ≠ .holdover) : t.overLimit = false := by
  simp [Timebase.overLimit, h]

/-- The holdover elapsed has reached the limit (R73). -/
theorem Timebase.overLimit_iff (t : Timebase) : t.overLimit = true ↔ t.state = .holdover ∧ t.limit * 54000000 ≤ t.elapsed := by
  rw [overLimit, Bool.and_eq_true, decide_eq_true_iff, decide_eq_true_iff]; rfl

/-- Settles O32: the expiry by its guard, and DISCIPLINE_CONFIG by the enable found, the enable sent and the state. -/
theorem disciplineIsSwitchedAndExpires : Obligations.DisciplineIsSwitchedAndExpires := by
  unfold Obligations.DisciplineIsSwitchedAndExpires
  intro s h free
  have hfree : ∀ t : Timebase, t.toFreerun s.selectedCal = free t := fun _ => rfl
  refine ⟨fun hst hl hr => ?_, fun hno => ?_, fun en window threshold limit => ?_⟩
  · have hover := (Timebase.overLimit_iff s.tb).mpr ⟨hst, hl⟩
    rw [exec, execHoldoverExpiry, event_live h (by simp [hover, (stalled_eq_false_iff s).mpr hr])]; rfl
  · rw [exec, execHoldoverExpiry, event_idle]
    rcases hno with hno | hno | hno
    · simp [Timebase.overLimit_of_not_holdover hno]
    · have : s.tb.overLimit = false := by
        rw [← Bool.not_eq_true, Timebase.overLimit_iff]; omega
      simp [this]
    · simp [State.stalled, hno]
  intro cmd w l n tb reply
  refine ⟨fun hbad => ?_, fun he hon hst => ?_, fun he hst => ?_, fun he hoff hst href => ?_, fun he hoff hst href => ?_,
    fun he hon hno => ?_, fun he hon hst hl => ?_⟩
  · simp only [cmd]
    rw [exec, execDisciplineConfig, request_live h, if_pos hbad]; rfl
  · have ht : (s.tb.settled window threshold limit).switched (decide (en = 1)) s.selectedCal = free tb := by
      subst he
      simp only [Timebase.switched, Timebase.settled, hon, hst]; rfl
    subst he
    exact (exec_disciplineConfig h (by omega) ht rfl).1 rfl
  · have ht : (s.tb.settled window threshold limit).switched (decide (en = 1)) s.selectedCal = tb := by
      subst he
      cases hon : s.tb.enable <;> simp [Timebase.switched, Timebase.settled, hon, hst, tb, w, l, n]
    have hrun := (exec_disciplineConfig h (by omega) ht (st := .freerun) hst).1 (Timebase.overLimit_of_not_holdover (by simp [tb, hst]))
    subst he
    exact hrun
  · have ht : (s.tb.settled window threshold limit).switched (decide (en = 1)) s.selectedCal = tb := by
      subst he
      simp [Timebase.switched, Timebase.settled, hoff, hst, href, tb, w, l, n]
    have hrun := (exec_disciplineConfig h (by omega) ht (st := .freerun) hst).1 (Timebase.overLimit_of_not_holdover (by simp [tb, hst]))
    subst he
    exact hrun
  · have ht : (s.tb.settled window threshold limit).switched (decide (en = 1)) s.selectedCal = tb.toLocking s.selectedCal 0 := by
      subst he
      simp [Timebase.switched, Timebase.settled, hoff, hst, href, tb, w, l, n]
    have hrun := (exec_disciplineConfig h (by omega) ht rfl).1 (Timebase.overLimit_of_not_holdover (by simp [Timebase.toLocking]))
    subst he
    rw [Timebase.toLocking, clampTrim_eq, add_zero] at hrun
    exact hrun
  · have ht : (s.tb.settled window threshold limit).switched (decide (en = 1)) s.selectedCal = tb := by
      subst he
      simp [Timebase.switched, Timebase.settled, hon, tb, w, l, n]
    have hover : tb.overLimit = false := by
      rw [← Bool.not_eq_true, Timebase.overLimit_iff]
      rcases hno with hno | hno
      · exact fun hc => hno hc.1
      · exact fun hc => absurd hc.2 (by simpa [tb] using hno)
    have hrun := (exec_disciplineConfig h (by omega) ht rfl).1 hover
    subst he
    exact hrun
  · have ht : (s.tb.settled window threshold limit).switched (decide (en = 1)) s.selectedCal = tb := by
      subst he
      simp [Timebase.switched, Timebase.settled, hon, tb, w, l, n]
    have hover : tb.overLimit = true := (Timebase.overLimit_iff tb).mpr ⟨hst, hl⟩
    have hrun := (exec_disciplineConfig h (by omega) ht rfl).2 hover
    subst he
    exact hrun

end Sys2Proof.Machine
end

section
/-! Lane settings and frame-pulse outputs (sections 5.6 and 5.7) and the mark inputs (Chapter 6). -/

namespace Sys2Proof.Bank

/-- Some record of a bank has a property exactly where one of its numbers reads a record that has it. -/
theorem any_iff {α : Type} {n : Nat} (b : Bank α n) (p : α → Bool) (d : α) :
    b.list.any p = true ↔ ∃ i < n, p (b.get i d) = true := by
  rw [List.any_eq_true]
  constructor
  · rintro ⟨x, hx, hp⟩
    obtain ⟨i, hi, rfl⟩ := exists_get hx d
    exact ⟨i, hi, hp⟩
  · rintro ⟨i, hi, hp⟩
    exact ⟨_, get_mem b hi d, hp⟩

end Sys2Proof.Bank

namespace Sys2Proof.Machine

/-! ### LANE_EXCEPTIONS and LANE_CLEAR -/

/-- A lane is named by a device, a cue or an output, in the words of the statements (R99). -/
theorem laneNamed_iff (s : State) (lane : Nat) :
    s.laneNamed lane = true
      ↔ (∃ n < 32, ∃ d, s.device n = some d ∧ d.lane = lane)
        ∨ (∃ slot < 64, ∃ q, s.cue slot = some q ∧ q.anchor.lane? = some lane) ∨ ∃ o < 4, (s.fp o).lane = some lane := by
  have hdevice : ∀ n, ((s.device n).any fun d => d.lane == lane) = true ↔ ∃ d, s.device n = some d ∧ d.lane = lane := fun n => by
    simp [Option.any_eq_true]
  have hcue : ∀ n, ((s.cue n).any fun c => c.on lane) = true ↔ ∃ q, s.cue n = some q ∧ q.anchor.lane? = some lane := fun n => by
    simp [Option.any_eq_true, Cue.on]
  rw [State.laneNamed, Bool.or_eq_true, Bool.or_eq_true, Bank.any_iff _ _ none, Bank.any_iff _ _ none, Bank.any_iff _ _ .reset, or_assoc]
  refine or_congr (exists_congr fun n => and_congr_right fun _ => hdevice n)
    (or_congr (exists_congr fun n => and_congr_right fun _ => hcue n) (exists_congr fun n => and_congr_right fun _ => ?_))
  rw [beq_iff_eq]; rfl

/-- The rounding modes by their codes (R96). -/
theorem roundingOf_eq {r : Nat} {mode : Rounding} (h : (r, mode) ∈ [(0, Rounding.nearestEven), (1, .down), (2, .up), (3, .towardZero)]) :
    r ≤ 3 ∧ roundingOf r = mode ∧ mode.code = r := by
  simp only [List.mem_cons, Prod.mk.injEq, List.not_mem_nil, or_false] at h
  rcases h with ⟨rfl, rfl⟩ | ⟨rfl, rfl⟩ | ⟨rfl, rfl⟩ | ⟨rfl, rfl⟩ <;> exact ⟨by decide, rfl, rfl⟩

/-- An indicator of a code of 0 or 1, and of its opposite. -/
theorem indicator_one {n : Nat} (h : n ≤ 1) : indicator (n == 1) = .code n ∧ indicator (!(n == 0)) = .code n := by
  rcases (show n = 0 ∨ n = 1 by omega) with rfl | rfl <;> exact ⟨rfl, rfl⟩

/-- A lane number that exists. -/
theorem laneOk_eq {lane : Nat} (h : lane ≤ 15) : laneOk lane = true := decide_eq_true (by omega)

/-- A lane number that does not exist. -/
theorem laneOk_eq_false {lane : Nat} (h : 15 < lane) : laneOk lane = false := decide_eq_false (by omega)

/-- Settles O40: LANE_EXCEPTIONS by its operands' sets, LANE_CLEAR by the lane's state and names. -/
theorem laneSettingsAndClearing : Obligations.LaneSettingsAndClearing := by
  unfold Obligations.LaneSettingsAndClearing
  intro s lane a b c r x y z h l cmd
  refine ⟨fun hbad => ?_, fun hlane ha hb hc hx hy hz mode hmode => ?_, fun hlane => ?_, fun hlane hst => ?_, fun hlane hst => ?_⟩
  · simp only [cmd]
    rw [exec, execLaneExceptions, request_live h]
    have hbad' : !laneOk lane ∨ 1 < a ∨ 1 < b ∨ 1 < c ∨ 3 < r ∨ 1 < x ∨ 1 < y ∨ 1 < z :=
      hbad.imp_left fun hl => by simp [laneOk_eq_false hl]
    simp only [if_pos hbad']; rfl
  · obtain ⟨hr, hround, hcode⟩ := roundingOf_eq hmode
    have hok : ¬ (!laneOk lane ∨ 1 < a ∨ 1 < b ∨ 1 < c ∨ 3 < r ∨ 1 < x ∨ 1 < y ∨ 1 < z) := by
      rw [laneOk_eq hlane]; simp; omega
    simp only [cmd]
    rw [exec, execLaneExceptions, request_live h]
    simp only [if_neg hok, maskFields, (indicator_one ha).2, (indicator_one hb).2, (indicator_one hc).2, hround, hcode]
    simp only [beq_decide]
    rfl
  · rw [exec, execLaneClear, request_live h]
    simp only [laneOk_eq_false hlane, Bool.not_false, if_true]; rfl
  · rw [exec, execLaneClear, request_live h]
    simp only [laneOk_eq hlane, Bool.not_true, Bool.false_eq_true, if_false, if_pos (show (s.lane lane).state = .free from hst)]; rfl
  · refine ⟨fun hnamed => ?_, fun hnamed => ?_⟩
    · rw [exec, execLaneClear, request_live h]
      simp only [laneOk_eq hlane, Bool.not_true, Bool.false_eq_true, if_false, if_neg (show ¬ (s.lane lane).state = .free from hst),
        (laneNamed_iff s lane).mpr hnamed, if_true]; rfl
    · have hno : s.laneNamed lane = false := by
        rw [← Bool.not_eq_true, laneNamed_iff]; exact hnamed
      rw [exec, execLaneClear, request_live h]
      simp only [laneOk_eq hlane, Bool.not_true, Bool.false_eq_true, if_false, if_neg (show ¬ (s.lane lane).state = .free from hst), hno]; rfl

/-! ### Frame-pulse outputs -/

/-- An output whose level is the opposite of its idle level is in a pulse (R100). -/
theorem pulsing_iff (f : FramePulse) : f.pulsing = true ↔ f.level = !f.activeLow := by
  simp [FramePulse.pulsing, FramePulse.active]

/-- Settles O41: PULSE_ASSIGN by its operands and the lane's state, and the end of a pulse by its guard. -/
theorem framePulsesAreAssignedAndEnd : Obligations.FramePulsesAreAssignedAndEnd := by
  unfold Obligations.FramePulsesAreAssignedAndEnd
  intro s output lane width pol cadence h cmd
  refine ⟨fun hbad => ?_, fun ho hp hl hst => ?_, fun ho hp hl => ?_, fun ho hlevel => ⟨fun hrem hr => ?_, fun hno => ?_⟩⟩
  · simp only [cmd]
    rw [exec, execPulseAssign, request_live h, if_pos hbad]; rfl
  · have hok : ¬ (3 < output ∨ (15 < lane ∧ lane ≠ 255) ∨ 1 < pol) := by omega
    have hfree : lane ≠ 255 ∧ (s.lane lane).state = .free := ⟨by omega, hst⟩
    simp only [cmd]
    rw [exec, execPulseAssign, request_live h]
    simp only [if_neg hok, if_pos hfree]; rfl
  · have hok : ¬ (3 < output ∨ (15 < lane ∧ lane ≠ 255) ∨ 1 < pol) := by omega
    have hset : ¬ (lane ≠ 255 ∧ (s.lane lane).state = .free) := fun hc => hl.elim hc.1 fun hl => hl.2.1 hc.2
    have hmost : ((s.widthMax lane : Nat) : Int) = if lane = 255 then 10799946 else ((s.lane lane).period : Int) - 54 := by
      unfold State.widthMax; split_ifs <;> omega
    have hwidth : clampNat 54 (s.widthMax lane) width
        = (max 54 (min (if lane = 255 then 10799946 else ((s.lane lane).period : Int) - 54) width)).toNat := by
      rw [clampNat, ← hmost, clampInt_eq]; · rfl
      rw [hmost]; push_cast; split_ifs <;> omega
    simp only [cmd]
    rw [exec, execPulseAssign, request_live h]
    simp only [if_neg hok, if_neg hset, hwidth, clampNat_natCast (show 1 ≤ 120 by omega), (indicator_one hp).1]
    rw [beq_decide]; rfl
  · have hpulse := (pulsing_iff (s.fp output)).mpr hlevel
    rw [exec, execFramePulseEnd, event_live h (by simp [hpulse, hrem, (stalled_eq_false_iff s).mpr hr])]; rfl
  · rw [exec, execFramePulseEnd, event_idle]
    rcases hno with hno | hno
    · simp [Nat.ne_of_gt hno]
    · simp [State.stalled, hno]

/-! ### Mark edges -/

section
variable {s : State} {input : Nat} {c : LevelChange}

/-- A level change of the statements is heard by an ARMED input. -/
theorem hears_of_mark {m : MarkInput} (hst : m.state = .armed) (hc : Spec.mark m c) : m.hears c = true := by
  obtain ⟨habandoned, hreversal, hrising, hfalling, width, hwidth, hheld⟩ := hc
  have hf := filterNs_eq hwidth
  have htakes : m.edge.takes c.rise = true := by
    cases he : m.edge
    · exact hrising he
    · simp [EdgeSelect.takes, hfalling he]
    · rfl
  simp [MarkInput.hears, hst, htakes, recognized, habandoned, hreversal, hf, hheld]

/-- An accepted edge that makes no capture (R105, R106). -/
theorem exec_markEdge_counts (h : s.resetLow = false) (hst : (s.mark input).state = .armed) (hc : Spec.mark (s.mark input) c)
    (hno : (s.mark input).decimates = false ∨ s.tb.set = false ∨ c.oldTime = true) :
    exec (.markEdge input c) s = .next (s.setMark input (s.mark input).accept) := by
  have hcond : ((s.mark input).decimates && s.tb.set && !c.oldTime) = false := by
    rcases hno with hno | hno | hno <;> simp [hno]
  rw [exec, execMarkEdge, event_live h (by simp [hst, hears_of_mark hst hc])]
  simp only [hcond, Bool.false_eq_true, if_false]

/-- An accepted edge that makes a capture (R106, R107). -/
theorem exec_markEdge_captures (h : s.resetLow = false) (hst : (s.mark input).state = .armed) (hc : Spec.mark (s.mark input) c)
    (hd : (s.mark input).decimates = true) (hset : s.tb.set = true) (hnew : c.oldTime = false) :
    exec (.markEdge input c) s
      = .next (raiseIf (s.mark input).overflows .markOverflow
          (s.setMark input ((s.mark input).accept.capture (capturePt c s.tb.pt)))) := by
  rw [exec, execMarkEdge, event_live h (by simp [hst, hears_of_mark hst hc])]
  simp only [hd, hset, hnew, Bool.not_false, Bool.and_self, if_true]

end

/-- Some pending mark has a number. -/
theorem any_number_iff (fifo : List Mark) (n : Nat) : (fifo.any fun k => k.number == n) = true ↔ ∃ x ∈ fifo, x.number = n := by
  simp

/-- A test against a mark's number, as a decision. -/
theorem filter_number (fifo : List Mark) (n : Nat) : (fifo.filter fun k => k.number != n) = fifo.filter fun k => decide (k.number ≠ n) :=
  List.filter_congr fun k _ => by rw [bne, beq_decide, decide_not]

/-- Settles O42: what is not heard, what is counted, and a capture by the room that it makes. -/
theorem markEdgesAreCountedAndCaptured : Obligations.MarkEdgesAreCountedAndCaptured := by
  unfold Obligations.MarkEdgesAreCountedAndCaptured
  intro s input c h hi m k held captured
  refine ⟨fun hno => ?_, fun hst hc => ⟨fun hlt => ?_, fun hle hno => ?_, fun hle hset hnew => ?_⟩⟩
  · rw [exec, execMarkEdge, event_idle]
    change (m.hears c && decide (m.state = .armed)) = false
    rcases hno with hno | hno | hno | hno | hno | ⟨width, hwidth, hno⟩
    · simp [hno]
    · simp [MarkInput.hears, recognized, hno]
    · simp [MarkInput.hears, hno, EdgeSelect.takes]
    · simp [MarkInput.hears, hno, EdgeSelect.takes]
    · simp [MarkInput.hears, recognized, hno]
    · have hf := filterNs_eq hwidth
      simp [MarkInput.hears, recognized, hf, hno]
  · have hd : ¬ m.decimation ≤ m.counter + 1 := by omega
    have haccept : m.accept = { held with counter := m.counter + 1 } := by
      simp only [MarkInput.accept, if_neg hd, held]
    rw [exec_markEdge_counts h hst hc (.inl (decide_eq_false hd))]
    exact congrArg (fun x => Host.Outcome.next (s.setMark input x)) haccept
  · have haccept : m.accept = { held with counter := 0 } := by
      simp only [MarkInput.accept, if_pos hle, held]
    rw [exec_markEdge_counts h hst hc (.inr hno)]
    exact congrArg (fun x => Host.Outcome.next (s.setMark input x)) haccept
  · have hcapture : ∀ fifo, makeRoom m.nextNumber m.fifo = fifo → m.accept.capture (capturePt c s.tb.pt) = captured fifo := by
      rintro _ rfl
      simp only [MarkInput.capture, MarkInput.accept, if_pos hle, captured, held]; rfl
    rw [exec_markEdge_captures h hst hc (decide_eq_true hle) hset hnew]
    refine ⟨fun hin => ?_, fun hout hfull => ?_, fun hout hroom => ?_⟩
    · have hany := (any_number_iff m.fifo m.nextNumber).mpr hin
      have hroom : makeRoom m.nextNumber m.fifo = m.fifo.filter fun x => decide (x.number ≠ m.nextNumber) := by
        rw [makeRoom, if_pos hany, filter_number]
      have hover : m.overflows = true := by rw [MarkInput.overflows, hany]; rfl
      exact congrArg₂ (fun b x => Host.Outcome.next (raiseIf b .markOverflow (s.setMark input x))) hover (hcapture _ hroom)
    · have hany : (m.fifo.any fun k => k.number == m.nextNumber) = false := by
        rw [← Bool.not_eq_true, any_number_iff]; simpa using hout
      have hroom : makeRoom m.nextNumber m.fifo = m.fifo.drop 1 := by
        rw [makeRoom, if_neg (by rw [hany]; decide), if_pos hfull]
      have hover : m.overflows = true := by rw [MarkInput.overflows, hany, Bool.false_or]; exact decide_eq_true hfull
      exact congrArg₂ (fun b x => Host.Outcome.next (raiseIf b .markOverflow (s.setMark input x))) hover (hcapture _ hroom)
    · have hany : (m.fifo.any fun k => k.number == m.nextNumber) = false := by
        rw [← Bool.not_eq_true, any_number_iff]; simpa using hout
      have hroom' : makeRoom m.nextNumber m.fifo = m.fifo := by
        rw [makeRoom, if_neg (by rw [hany]; decide), if_neg (Nat.not_le.mpr hroom)]
      have hover : m.overflows = false := by
        rw [MarkInput.overflows, hany, Bool.false_or]; exact decide_eq_false (Nat.not_le.mpr hroom)
      exact congrArg₂ (fun b x => Host.Outcome.next (raiseIf b .markOverflow (s.setMark input x))) hover (hcapture _ hroom')

/-! ### Holdoffs, expiry and MARK_CONFIG -/

/-- Settles O43, each event by its guard. -/
theorem holdoffsEndAndMarksExpire : Obligations.HoldoffsEndAndMarksExpire := by
  unfold Obligations.HoldoffsEndAndMarksExpire
  intro s input h hi m
  refine ⟨fun hst hrem hr => ?_, fun hno => ?_, fun hno => ?_, fun k rest hk hr => ⟨fun hlt => ?_, fun hle => ?_⟩⟩
  · have hst' : (s.mark input).state = .holdoff := hst
    have hrem' : (s.mark input).remaining = 0 := hrem
    rw [exec, execHoldoffEnd, event_live h (by simp [hst', hrem', (stalled_eq_false_iff s).mpr hr])]
  · rw [exec, execHoldoffEnd, event_idle]
    change (!s.stalled && decide (m.state = .holdoff) && m.remaining == 0) = false
    rcases hno with hno | hno | hno
    · simp [hno]
    · simp [Nat.ne_of_gt hno]
    · simp [State.stalled, hno]
  · rw [exec, execMarkExpiry, event_idle]
    change (!s.stalled && m.oldestExpired s.tb.pt) = false
    rcases hno with hno | hno
    · simp [MarkInput.oldestExpired, hno]
    · simp [State.stalled, hno]
  · have hold : (s.mark input).oldestExpired s.tb.pt = false := by
      rw [MarkInput.oldestExpired, show (s.mark input).fifo = k :: rest from hk]
      simp only [List.head?_cons, Option.any_some, Mark.expired, decide_eq_false_iff_not]
      exact not_le.mpr hlt
    rw [exec, execMarkExpiry, event_idle (by simp [hold])]
  · have hold : (s.mark input).oldestExpired s.tb.pt = true := by
      rw [MarkInput.oldestExpired, show (s.mark input).fifo = k :: rest from hk]
      simp only [List.head?_cons, Option.any_some, Mark.expired, decide_eq_true_eq]
      exact hle
    have hkept : (m.fifo.filter fun x => decide (m.fifo.head?.map Mark.pt ≠ some x.pt)) = rest.filter fun x => decide (x.pt ≠ k.pt) := by
      rw [hk, List.head?_cons, Option.map_some, List.filter_cons_of_neg (by simp)]
      exact List.filter_congr fun x _ => by simp [eq_comm]
    rw [exec, execMarkExpiry, event_live h (by simp [hold, (stalled_eq_false_iff s).mpr hr])]
    exact congrArg (fun f => Host.Outcome.next (raise .markExpired (s.setMark input { m with fifo := f }))) hkept

/-- Settles O44: the clamps, and the marks that the new window keeps. -/
theorem markConfigSetsTheInput : Obligations.MarkConfigSetsTheInput := by
  unfold Obligations.MarkConfigSetsTheInput
  intro s input en edge filter holdoff decimation window h cmd
  refine ⟨fun hbad => ?_, fun hinput hen hfilter sel hsel => ?_⟩
  · have hbad' : !inputOk input ∨ 1 < en ∨ 2 < edge ∨ 3 < filter :=
      hbad.imp_left fun hi => by simp [inputOk]; omega
    simp only [cmd]
    rw [exec, execMarkConfig, request_live h, if_pos hbad']; rfl
  intro m hd d w st kept t
  obtain ⟨hedge, hsel', hcode⟩ : edge ≤ 2 ∧ edgeOf edge = sel ∧ sel.code = edge := by
    simp only [List.mem_cons, Prod.mk.injEq, List.not_mem_nil, or_false] at hsel
    rcases hsel with ⟨rfl, rfl⟩ | ⟨rfl, rfl⟩ | ⟨rfl, rfl⟩ <;> exact ⟨by decide, rfl, rfl⟩
  have hok : ¬ (!inputOk input ∨ 1 < en ∨ 2 < edge ∨ 3 < filter) := by simp [inputOk]; omega
  have hhold : clampNat 0 500 holdoff = hd := by rw [clampNat_natCast (by omega)]; exact Nat.zero_max _
  have hdec : clampNat 1 4096 decimation = d := clampNat_natCast (by omega) _
  have hwin : clampNat 100 10000 window = w := clampNat_natCast (by omega) _
  have hkept : ((s.mark input).fifo.filter fun k => !k.expired (w * ticksPerMs) s.tb.pt) = kept :=
    List.filter_congr fun k _ => by rw [Mark.expired, ← decide_not]; exact decide_eq_decide.mpr not_le
  have hst : (if en = 1 then MarkState.armed else .disabled) = st := rfl
  have hms : ∀ n : Nat, n * ticksPerMs / ticksPerMs = n := fun n => Nat.mul_div_cancel n (by decide)
  simp only [cmd]
  rw [exec, execMarkConfig, request_live h]
  simp only [if_neg hok, MarkInput.configured, hhold, hdec, hwin, hsel', hcode, hst, hms, hkept, (indicator_one hen).1]
  rw [beq_decide]
  by_cases hl : kept.length < m.fifo.length
  · rw [if_pos hl, show decide (kept.length < (s.mark input).fifo.length) = true from decide_eq_true hl]; rfl
  · rw [if_neg hl, show decide (kept.length < (s.mark input).fifo.length) = false from decide_eq_false hl]; rfl

end Sys2Proof.Machine
end

section
/-! The reads (sections 2.7, 3.6, 4.9, 5.6, 6.5, 7.8 and 8.10), the registering and removing of devices and the refusals of their reports
(Chapter 7), and the cancelling and modifying of cues with the output lines (Chapter 8). -/

namespace Sys2Proof.Machine

/-! ### The fields of the reads -/

/-- A presence indicator, in the words of the statements. -/
theorem present_eq {α : Type} (x : Option α) : present x = Spec.bit x.isSome := rfl

/-- An indicator, in the words of the statements. -/
theorem indicator_eq (b : Bool) : indicator b = Spec.bit b := rfl

/-- A label field, in the words of the statements. -/
theorem labelField_eq (l : Lane) (c : Option Nat) : l.labelField c = Spec.lab l c := by cases c <;> rfl

/-- The sound part of a reply. -/
theorem soundFields_eq (x : Option Sound) :
    soundFields x = match x with
      | some x => [Spec.bit true, Spec.bit x.rate96, .code x.pull]
      | none => [Spec.bit false, .code 0, .code 0] := by
  cases x <;> rfl

/-- The mapping of a reply. -/
theorem mappingFields_eq (l : Lane) :
    [present l.mapping, .index l.map.k0, .word l.map.c0]
      = match l.mapping with
        | some m => [Spec.bit true, .index m.k0, .word m.c0]
        | none => [Spec.bit false, .index 0, .word 0] := by
  unfold Lane.map
  cases l.mapping <;> rfl

/-- The latched record of a reply. -/
theorem latchedFields_eq (l : Lane) :
    l.latchedFields
      = match l.latched with
        | some r => [Spec.bit true, .index r.index, .pt r.pt, Spec.lab l (some r.count)]
            ++ (match r.sample with
              | some (p, exact) => [.sample p, Spec.bit exact]
              | none => [.sample 0, .code 0])
        | none => [Spec.bit false, .index 0, .pt 0, Spec.lab l none, .sample 0, .code 0] := by
  unfold Lane.latchedFields
  cases l.latched with
  | none => rfl
  | some r => cases hr : r.sample <;> simp [hr, Spec.bit, Spec.lab, indicator]

/-- The settings of a device as a reply carries them. -/
theorem settingFields_eq (d : Device) :
    d.settingFields
      = [.code d.kind.code, .code d.lane, .code (d.input.getD 255), Spec.bit d.midFrame, .ticks d.outlierLimit, .ticks d.offsetTol,
          .ppb d.driftTol, .word d.span, .word d.silence]
        ++ (match d.rejam with
          | some (line, w) => [Fld.code 1, .code line, .ticks w]
          | none => [.code 0, .code 0, .ticks 0]) := by
  unfold Device.settingFields
  cases d.rejam <;> rfl

/-- An entry of a ring as a reply lists it. -/
theorem obsFields_eq (o : Obs) (l : Lane) (slot : Nat) :
    o.fields l slot
      = [Fld.code slot, .ptSigned o.pt, Spec.lab l (some o.count), .ticks o.offset, Spec.bit o.residual.isSome,
          .ticks (o.residual.getD 0), .code o.tag.code]
        ++ (match o.source with
          | some number => [.code 0, .short number]
          | none => [.code 1, .short 0]) := by
  unfold Obs.fields
  cases o.source <;> rfl

/-- The staged block of a reply. -/
theorem stagedFields_eq (b : Option Staged) :
    stagedFields b = match b with
      | some b => [Spec.bit true, .ticks b.width, .interval b.interval, .code b.action.code]
      | none => [Spec.bit false, .ticks 0, .interval 0, .code 0] := by
  cases b <;> rfl

/-- A list numbered and mapped, as a map over its numbered entries. -/
theorem mapIdx_eq_zipIdx {α β : Type} (l : List α) (f : Nat → α → β) : l.mapIdx f = l.zipIdx.map fun p => f p.2 p.1 :=
  List.mapIdx_eq_zipIdx_map

/-- The place of a slot in the due list, in the words of the statements. -/
theorem placeOf_eq (s : State) (slot : Nat) : s.placeOf slot = if slot ∈ s.dues then s.dues.idxOf slot else 255 := by
  simp [State.placeOf]

/-! ### The reads -/

/-- Settles O11: each query only reports. -/
theorem clockQueriesReportWhatIsHeld : Obligations.ClockQueriesReportWhatIsHeld := by
  unfold Obligations.ClockQueriesReportWhatIsHeld
  intro s h source
  refine ⟨?_, ?_, ?_⟩
  · rw [exec, execSourceQuery, request_report s h, sourceCode_eq, stallField_eq]; rfl
  · rw [exec, execRefQuery]; exact request_report s h
  · rw [exec, execTbQuery]; exact request_report s h

section
variable {s : State}

/-- A request on a registered device is handed to its block. -/
theorem withDevice_some {n : Nat} {d : Device} (f : Device → State → State × Answer) (hn : n ≤ 31) (hd : s.device n = some d) :
    withDevice n f s = f d s := by
  rw [withDevice, if_neg (by omega), hd]

/-- A request on a free device slot is refused. -/
theorem withDevice_none {n : Nat} (f : Device → State → State × Answer) (hn : n ≤ 31) (hd : s.device n = none) :
    withDevice n f s = refuse .noSuch s := by
  rw [withDevice, if_neg (by omega), hd]

/-- A request on a device number that does not exist is refused. -/
theorem withDevice_out {n : Nat} (f : Device → State → State × Answer) (hn : 31 < n) : withDevice n f s = refuse .badValue s := by
  rw [withDevice, if_pos (by omega)]

/-- A slot number that exists. -/
theorem slotOk_eq {i : Nat} (h : i < 64) : slotOk i = true := decide_eq_true h

/-- A slot number that does not exist. -/
theorem slotOk_eq_false {i : Nat} (h : 63 < i) : slotOk i = false := decide_eq_false (by omega)

/-- LANE_QUERY of a lane that exists. -/
theorem exec_laneQuery {lane : Nat} (h : s.resetLow = false) (hl : lane < 16) :
    let l := s.lane lane
    exec (.laneQuery lane) s
      = .next (Spec.ok s
          ([.code l.state.code, .code l.code, .ticks l.period, .short l.base, indicator l.df, .ticks l.phase] ++ soundFields l.sound
            ++ [indicator l.atNext] ++ [present l.mapping, .index l.map.k0, .word l.map.c0] ++ [.code l.rounding.code]
            ++ maskFields l.masks ++ condFields l.sticky
            ++ [present l.frozen, l.labelField l.frozen, present l.pendingLabel, l.labelField l.pendingLabel]
            ++ l.latchedFields ++ [present l.next, .index (l.next.getD 0)])) := by
  rw [exec, execLaneQuery, request_live h]
  simp only [laneOk_eq (show lane ≤ 15 by omega), Bool.not_true, Bool.false_eq_true, if_false, List.append_assoc]; rfl

/-- CUE_QUERY of a slot that exists. -/
theorem exec_cueQuery {slot : Nat} (h : s.resetLow = false) (hs : slot < 64) :
    exec (.cueQuery slot) s = .next (Spec.ok s (s.cueFields slot)) := by
  rw [exec, execCueQuery, request_live h]
  simp only [slotOk_eq hs, Bool.not_true, Bool.false_eq_true, if_false]; rfl

/-- The present current anchor of a cue that a reply carries (R159). -/
theorem currentFields_eq (a : Anchor) (current : Option Int) :
    present current :: s.currentFields a current
      = match a, current with
        | .label i _ _, some v => [Spec.bit true, Spec.lab (s.lane i) (some v.toNat), .sample 0]
        | .sample _ _, some v => [Spec.bit true, .label Spec.zero, .sample v]
        | .absolute _, some _ => [Spec.bit true, .label Spec.zero, .sample 0]
        | _, none => [.code 0, .label Spec.zero, .sample 0] := by
  cases a <;> cases current <;> rfl

/-- An anchor that a reply carries (R159). -/
theorem anchorFields_eq (a : Anchor) :
    a.fields = match a with
      | .absolute pt => [.code 0, .pt pt, .code 0, .label Spec.zero, .ticks 0, .sample 0]
      | .label i p o => [.code 1, .pt 0, .code i, .label p, .ticks o, .sample 0]
      | .sample i p => [.code 2, .pt 0, .code i, .label Spec.zero, .ticks 0, .sample p] := by
  cases a <;> rfl

end

/-- Settles O12: each read refuses a number that does not exist and otherwise only reports. -/
theorem readsChangeNothing : Obligations.ReadsChangeNothing := by
  unfold Obligations.ReadsChangeNothing
  intro s h
  refine ⟨?_, fun lane hl => ?_, fun lane hl => ?_, fun input hi => ?_, fun input hi => ?_, fun n hn hd => ⟨?_, ?_⟩,
    fun n hn d hd => ⟨?_, ?_⟩, fun slot hs => ⟨?_, ?_⟩, fun slot hs => ⟨fun hc => ?_, fun c hc => ?_⟩, fun start hs => ?_, fun j hj => ?_,
    fun j hj => ?_⟩
  · rw [exec, execTimeGet]; exact request_report s h
  · rw [exec, execLaneQuery, request_live h]
    simp only [laneOk_eq_false hl, Bool.not_false, if_true]; rfl
  · intro l
    rw [exec_laneQuery h hl, soundFields_eq, mappingFields_eq, latchedFields_eq, labelField_eq, labelField_eq]
    simp only [List.append_assoc, List.cons_append, List.nil_append]
    rfl
  · rw [exec, execMarkQuery, request_live h]
    simp only [inputOk, decide_eq_false (show ¬ input < 8 by omega), Bool.not_false, if_true]; rfl
  · rw [exec, execMarkQuery, request_live h]
    simp only [inputOk, decide_eq_true hi, Bool.not_true, Bool.false_eq_true, if_false, List.flatMap_def]; rfl
  · rw [exec, execDeviceQuery, request_live h, withDevice_none _ (by omega) hd]; rfl
  · rw [exec, execDeviceRing, request_live h, withDevice_none _ (by omega) hd]; rfl
  · rw [exec, execDeviceQuery, request_live h, withDevice_some _ (by omega) hd, settingFields_eq]
    simp only [List.append_assoc]; rfl
  · rw [exec, execDeviceRing, request_live h, withDevice_some _ (by omega) hd]
    simp only [mapIdx_eq_zipIdx, obsFields_eq]; rfl
  · rw [exec, execCueQuery, request_live h]
    simp only [slotOk_eq_false hs, Bool.not_false, if_true]; rfl
  · rw [exec, execCueList, request_live h]
    simp only [slotOk_eq_false hs, Bool.not_false, if_true]; rfl
  · rw [exec_cueQuery h hs, State.cueFields, hc]; rfl
  · intro anchor current place
    have hcurrent : present c.current :: s.currentFields c.anchor c.current = current := currentFields_eq c.anchor c.current
    have hfields : s.cueFields slot
        = [.code c.state.code, .code (orNone c.owner)] ++ c.anchor.fields ++ (present c.current :: s.currentFields c.anchor c.current)
          ++ [.code c.action.code, .ticks c.width, .code (orNone c.line), indicator c.flagOnFire, .short c.repeatCount,
            .word (firingsCode c.left), .interval c.interval, indicator c.drop]
          ++ stagedFields c.staged ++ [present c.due, .pt (c.due.getD 0 : Nat), .ticks c.remaining, .code (s.placeOf slot)] := by
      rw [State.cueFields, hc]; simp only [List.append_assoc, List.cons_append, List.nil_append]
    rw [exec_cueQuery h hs, hfields, hcurrent, placeOf_eq, stagedFields_eq, anchorFields_eq]; rfl
  · rw [exec, execCueList, request_live h]
    simp only [slotOk_eq hs, Bool.not_true, Bool.false_eq_true, if_false, List.flatMap_def]; rfl
  · rw [exec, execOutputQuery, request_live h, if_pos hj]; rfl
  · have hrem : (((s.line j).holder.bind s.cue).map Cue.remaining).getD 0
        = match (s.line j).holder.bind s.cue with
          | some c => c.remaining
          | none => 0 := by cases (s.line j).holder.bind s.cue <;> rfl
    have hj' : ¬ 7 < j := by omega
    rw [exec, execOutputQuery, request_live h]
    simp only [if_neg hj', hrem]
    cases (s.line j).holder.bind s.cue <;> rfl

/-! ### Devices registered, removed, reset and lost -/

/-- The lowest free slot. -/
theorem freeDevice_some {s : State} {n : Nat} (hn : n < 32) (hfree : s.device n = none) (hlow : ∀ j < n, (s.device j).isSome = true) :
    s.freeDevice = some n := by
  rw [State.freeDevice, slots, List.find?_range_eq_some]
  exact ⟨by simp [hfree], List.mem_range.mpr hn, fun j hj => by simpa using hlow j hj⟩

/-- No free slot. -/
theorem freeDevice_none {s : State} (hfull : ∀ n < 32, (s.device n).isSome = true) : s.freeDevice = none := by
  rw [State.freeDevice, slots, List.find?_eq_none]
  intro n hn
  simp [Option.isSome_iff_ne_none.mp (hfull n (List.mem_range.mp hn))]

/-- An input is taken, in the words of the statements (R118). -/
theorem inputTaken_iff (s : State) (input : Nat) :
    s.inputTaken input = true ↔ ∃ n < 32, ∃ d, s.device n = some d ∧ d.input = some input := by
  have hdevice : ∀ n, ((s.device n).any fun d => d.input == some input) = true ↔ ∃ d, s.device n = some d ∧ d.input = some input :=
    fun n => by simp [Option.any_eq_true]
  rw [State.inputTaken, Bank.any_iff _ _ none]
  exact exists_congr fun n => and_congr_right fun _ => hdevice n

/-- A numeric setting, in the words of the statements. -/
theorem setting_eq {allSet default lo hi : Int} (h : lo ≤ hi) (v : Int) :
    setting allSet default lo hi v = if v = allSet then default else max lo (min hi v) := by
  rw [setting, clampInt_eq h]

/-- The checks of a registration. -/
theorem registerOk_iff (kind lane input position policy line : Nat) :
    registerOk kind lane input position policy line = true
      ↔ kind ≤ 3 ∧ lane ≤ 15 ∧ (input ≤ 7 ∨ input = 255) ∧ position ≤ 2 ∧ (policy = 0 ∨ policy = 1 ∧ line ≤ 7) := by
  simp only [registerOk, Bool.and_eq_true, Bool.or_eq_true, decide_eq_true_eq, beq_iff_eq]
  omega

section
variable {kind lane input position span silence policy line n : Nat} {outlier offsetTol driftTol width : Int} {s : State}

/-- A DEVICE_REGISTER that passes its checks, by the lane and the input it names (R118). -/
theorem exec_deviceRegister (h : s.resetLow = false) (hok : registerOk kind lane input position policy line = true)
    (hfree : s.freeDevice = some n) :
    let d := newDevice kind lane input position outlier offsetTol driftTol span silence policy line width
    let cmd := Instr.deviceRegister kind lane input position outlier offsetTol driftTol span silence policy line width
    ((s.lane lane).state = .free → exec cmd s = .next (Spec.no s .noSuch))
      ∧ ((s.lane lane).state ≠ .free → (input ≠ 255 ∧ s.inputTaken input = true) → exec cmd s = .next (Spec.no s .inUse))
      ∧ ((s.lane lane).state ≠ .free → ¬ (input ≠ 255 ∧ s.inputTaken input = true) →
          exec cmd s = .next (Spec.ok (s.setDevice n (some d)) ([.code n] ++ d.settingFields ++ [.code d.state.code]))) := by
  intro d cmd
  refine ⟨fun hst => ?_, fun hst ht => ?_, fun hst ht => ?_⟩ <;> simp only [cmd] <;> rw [exec, execDeviceRegister, request_live h]
  · simp only [hok, Bool.not_true, Bool.false_eq_true, if_false, hfree, if_pos hst]; rfl
  · simp only [hok, Bool.not_true, Bool.false_eq_true, if_false, hfree, if_neg hst, if_pos ht]; rfl
  · simp only [hok, Bool.not_true, Bool.false_eq_true, if_false, hfree, if_neg hst, if_neg ht]; rfl

end

/-- Settles O45: the refusals in order, and the new record's settings one by one. -/
theorem deviceRegisterTakesTheLowestSlot : Obligations.DeviceRegisterTakesTheLowestSlot := by
  unfold Obligations.DeviceRegisterTakesTheLowestSlot
  intro s kind lane input position outlier offsetTol driftTol span silence policy line width h cmd fits taken
  have hfits : registerOk kind lane input position policy line = true ↔ fits := registerOk_iff _ _ _ _ _ _
  refine ⟨fun hbad => ?_, fun hok hfull => ?_, fun n hn hok hfree hlow => ?_⟩
  · have hno : registerOk kind lane input position policy line = false := by rw [← Bool.not_eq_true, hfits]; exact hbad
    simp only [cmd]
    rw [exec, execDeviceRegister, request_live h]
    simp only [hno, Bool.not_false, if_true]; rfl
  · simp only [cmd]
    rw [exec, execDeviceRegister, request_live h]
    simp only [hfits.mpr hok, Bool.not_true, Bool.false_eq_true, if_false, freeDevice_none hfull]; rfl
  obtain ⟨hnoSuch, hinUse, htaken⟩ := exec_deviceRegister (outlier := outlier) (offsetTol := offsetTol) (driftTol := driftTol)
    (span := span) (silence := silence) (width := width) h (hfits.mpr hok) (freeDevice_some hn hfree hlow)
  refine ⟨hnoSuch, fun hst hin ht => hinUse hst ⟨by omega, (inputTaken_iff s input).mpr ht⟩, fun hst ht k hk => ?_⟩
  intro mid ol ot dt sp si w
  have hkind : deviceKindOf kind = k ∧ k.code = kind := by
    simp only [List.mem_cons, Prod.mk.injEq, List.not_mem_nil, or_false] at hk
    rcases hk with ⟨rfl, rfl⟩ | ⟨rfl, rfl⟩ | ⟨rfl, rfl⟩ | ⟨rfl, rfl⟩ <;> exact ⟨rfl, rfl⟩
  have hmid : (position == 1 || (position == 2 && kind == 2)) = mid := by
    simp only [beq_decide, mid, Bool.decide_or, Bool.decide_and]
  have hol : setting (-1) 27000 54 1080000 outlier = ol := setting_eq (by omega) _
  have hot : setting (-1) 54000 0 54000000 offsetTol = ot := setting_eq (by omega) _
  have hdt : setting (-1) 10000 0 2000000 driftTol = dt := setting_eq (by omega) _
  have hw : setting (-1) 54000 54 54000000 width = w := setting_eq (by omega) _
  have hsp : (setting 4294967295 10 1 600 span).toNat = sp := by
    rw [setting_eq (by omega)]; simp only [sp]; split_ifs <;> omega
  have hsi : (setting 4294967295 120 1 3600 silence).toNat = si := by
    rw [setting_eq (by omega)]; simp only [si]; split_ifs <;> omega
  have hpos : (w.toNat : Int) = w := Int.toNat_of_nonneg (by simp only [w]; split_ifs <;> omega)
  have hnew : newDevice kind lane input position outlier offsetTol driftTol span silence policy line width
      = { kind := k, lane := lane, input := if input = 255 then none else some input, midFrame := mid, outlierLimit := ol
          offsetTol := ot, driftTol := dt, span := sp, silence := si
          rejam := if policy = 1 then some (line, w.toNat) else none, state := .unseen, top := 0, ring := [], offsetEst := none
          driftEst := none, outliers := 0, silenceLeft := none, cue := none } := by
    rw [newDevice, hkind.1, hmid, hol, hot, hdt, hw, hsp, hsi]
  have hrun := htaken hst fun hc => ht.elim hc.1 fun hno => hno ((inputTaken_iff s input).mp hc.2)
  rw [hnew, settingFields_eq] at hrun
  refine hrun.trans (congrArg (fun f => Host.Outcome.next (Spec.ok _ f)) ?_)
  have hin : (if input = 255 then none else some input).getD 255 = input := by split_ifs with hi <;> simp [hi]
  obtain ⟨-, -, -, -, hpolicy⟩ := hok
  rcases hpolicy with rfl | ⟨rfl, -⟩
  · simp only [hin, hkind.2]; rfl
  · simp only [hin, hkind.2, if_true, hpos]; rfl

/-- A slot made FREE, in the words of the statements. -/
theorem freeSlot_eq {s : State} {slot : Nat} {q : Cue} (hq : s.cue slot = some q) : freeSlot slot s = Spec.freed s slot q := by
  rw [freeSlot, hq]
  simp only [releaseLine, Spec.freed]
  cases hl : q.line with
  | none => rfl
  | some j =>
    by_cases hh : (s.line j).holder = some slot
    · have hh' : ((leaveDues slot s).line j).holder = some slot := hh
      simp only [if_pos hh, if_pos hh']; rfl
    · have hh' : ¬ ((leaveDues slot s).line j).holder = some slot := hh
      simp only [if_neg hh, if_neg hh']; rfl

/-- Settles O46: the device checks, the cancelled cue, and the loss by its guard. -/
theorem devicesAreRemovedResetAndLost : Obligations.DevicesAreRemovedResetAndLost := by
  unfold Obligations.DevicesAreRemovedResetAndLost
  intro s n h
  refine ⟨fun hn => ⟨?_, ?_, ?_, ?_⟩, fun hn hd => ⟨?_, ?_⟩, fun d hn hd => ?_⟩
  · rw [exec, execDeviceRemove, request_live h, withDevice_out _ hn]; rfl
  · rw [exec, execDeviceResetTrack, request_live h, withDevice_out _ hn]; rfl
  · rw [exec, execDeviceQuery, request_live h, withDevice_out _ hn]; rfl
  · rw [exec, execDeviceRing, request_live h, withDevice_out _ hn]; rfl
  · rw [exec, execDeviceRemove, request_live h, withDevice_none _ hn hd]; rfl
  · rw [exec, execDeviceResetTrack, request_live h, withDevice_none _ hn hd]; rfl
  intro cancelled
  have hcancelled : cancelOwned d s = cancelled := by
    simp only [cancelOwned, cancelled]
    cases hc : d.cue with
    | none => rfl
    | some slot =>
      cases hq : s.cue slot with
      | none => simp only [freeSlot, hq]
      | some q => simp only [freeSlot_eq hq, hq]
  refine ⟨?_, ?_, fun hst hsil hr => ?_, fun hno => ?_⟩
  · rw [exec, execDeviceRemove, request_live h, withDevice_some _ hn hd, hcancelled]; rfl
  · rw [exec, execDeviceResetTrack, request_live h, withDevice_some _ hn hd, hcancelled]; rfl
  · have hsilent : d.silent = true := by simp [Device.silent, DeviceState.listens, hst, hsil]
    rw [exec, execDeviceSilenceExpiry, event_live h (by simp [hd, hsilent, (stalled_eq_false_iff s).mpr hr]), hd]; rfl
  · rw [exec, execDeviceSilenceExpiry, event_idle]
    rcases hno with hno | hno | hno | hno | hno
    · simp [hd, Device.silent, DeviceState.listens, hno]
    · simp [hd, Device.silent, DeviceState.listens, hno]
    · simp [hd, Device.silent, DeviceState.listens, hno]
    · simp [hd, Device.silent, hno]
    · simp [State.stalled, hno]

/-! ### Reports refused or ignored -/

section
variable {s : State} {d : Device} {kind capture pt : Nat} {i : Nat} {k : Mark} {before after : List Mark}

/-- The mark that a report names, where its input holds it (R110, R123). -/
theorem findMark_eq (hk : kind = 0 ∧ before = [] ∨ kind = 1 ∧ k.number = capture ∧ ∀ x ∈ before, x.number ≠ capture) :
    findMark kind capture (before ++ k :: after) = some k := by
  rcases hk with ⟨rfl, rfl⟩ | ⟨rfl, hk, hbefore⟩
  · rfl
  · rw [findMark, if_neg (by decide), List.find?_append, List.find?_eq_none.mpr (by simpa using hbefore), List.find?_cons_of_pos (by simpa using hk)]
    rfl

/-- The mark that a report names is not among those before it. -/
theorem erase_named (hk : kind = 0 ∧ before = [] ∨ kind = 1 ∧ k.number = capture ∧ ∀ x ∈ before, x.number ≠ capture) :
    (before ++ k :: after).erase k = before ++ after := by
  rcases hk with ⟨-, rfl⟩ | ⟨-, hk, hbefore⟩
  · simp
  · rw [List.erase_append_right _ fun hin => hbefore k hin hk, List.erase_cons_head]

/-- The reference of a report of kind 0 or 1 needs a mark input, and that of kind 2 an instant not past PT (R123). -/
theorem refOk_iff (now : Nat) :
    d.refOk kind pt now = true ↔ kind < 2 ∧ d.input ≠ none ∨ kind = 2 ∧ (d.input = none ∨ d.kind = .suite) ∧ pt ≤ now := by
  unfold Device.refOk
  split_ifs with hk
  · simp [hk]
  · simp [hk, Option.isSome_iff_ne_none]

/-- A report whose reference, label and lane pass the checks: it names no mark, or it is ignored (R123, R124). -/
theorem exec_deviceReport {n : Nat} {lab : Label} (h : s.resetLow = false) (hn : n ≤ 31) (hd : s.device n = some d)
    (href : d.refOk kind pt s.tb.pt = true) (hlab : (s.lane d.lane).wellFormed lab = true) (hset : s.tb.set = true)
    (hst : (s.lane d.lane).state ≠ .waiting) :
    let k := s.namedMark d kind capture
    (kind ≠ 2 → k = none → exec (.deviceReport n lab kind capture pt) s = .next (Spec.no s .noMark))
      ∧ ((kind = 2 ∨ k.isSome = true) →
          (d.state = .rejamPending ∨ ∃ o ∈ d.ring.head?, (k.map Mark.pt).getD (pt : Int) ≤ o.pt) →
          exec (.deviceReport n lab kind capture pt) s
            = .next { claimMark d.input k s with
                answer := some ⟨.ignored, [.short ((k.map Mark.number).getD 0), .ptSigned ((k.map Mark.pt).getD 0), .code d.state.code]⟩ }) := by
  intro k
  rw [exec, execDeviceReport, request_live h, withDevice_some _ hn hd]
  simp only [href, hlab, hset, Bool.not_true, Bool.false_eq_true, if_false, if_neg hst]
  refine ⟨fun hkind hk => ?_, fun hk hign => ?_⟩
  · have hno : kind ≠ 2 ∧ (s.namedMark d kind capture).isNone = true := ⟨hkind, by rw [show s.namedMark d kind capture = none from hk]; rfl⟩
    simp only [if_pos hno]; rfl
  · have hno : ¬ (kind ≠ 2 ∧ (s.namedMark d kind capture).isNone = true) := by
      rintro ⟨hkind, hnone⟩
      rcases hk with hk | hk
      · exact hkind hk
      · rw [Option.isNone_iff_eq_none] at hnone
        simp only [k, hnone, Option.isSome_none, Bool.false_eq_true] at hk
    have hign' : d.state = .rejamPending
        ∨ (d.ring.head?.any fun o => decide (((s.namedMark d kind capture).map Mark.pt).getD (pt : Int) ≤ o.pt)) = true := by
      simpa [Option.any_eq_true] using hign
    simp only [if_neg hno, if_pos hign']; rfl

end

/-- Settles O47, in the order of the checks of R123 and R124. -/
theorem reportsAreRefusedOrIgnored : Obligations.ReportsAreRefusedOrIgnored := by
  unfold Obligations.ReportsAreRefusedOrIgnored
  intro s n lab kind capture pt h cmd
  refine ⟨fun hn => ?_, fun hn hd => ?_, fun d hn hd => ?_⟩
  · simp only [cmd]
    rw [exec, execDeviceReport, request_live h, withDevice_out _ hn]; rfl
  · simp only [cmd]
    rw [exec, execDeviceReport, request_live h, withDevice_none _ hn hd]; rfl
  intro l
  refine ⟨fun hbad => ?_, fun hok => ⟨fun hlab => ?_, fun hlab hset => ?_, fun hlab hset hst => ?_, fun hlab hset hst => ?_⟩⟩
  · have hno : d.refOk kind pt s.tb.pt = false := by
      rw [← Bool.not_eq_true, refOk_iff]
      rintro (⟨hk, hi⟩ | ⟨hk, hi, hpt⟩)
      · rcases hbad with hb | ⟨-, hb⟩ | ⟨hb, -⟩
        · omega
        · exact hi hb
        · omega
      · rcases hbad with hb | ⟨hb, -⟩ | ⟨-, hb | hb⟩
        · omega
        · omega
        · exact hi.elim hb.1 hb.2
        · omega
    simp only [cmd]
    rw [exec, execDeviceReport, request_live h, withDevice_some _ hn hd]
    simp only [hno, Bool.not_false, if_true]; rfl
  all_goals
    have hok := (refOk_iff s.tb.pt).mpr hok
  · simp only [cmd]
    rw [exec, execDeviceReport, request_live h, withDevice_some _ hn hd]
    simp only [hok, Bool.not_true, Bool.false_eq_true, if_false, show (s.lane d.lane).wellFormed lab = false from hlab, Bool.not_false, if_true]; rfl
  · simp only [cmd]
    rw [exec, execDeviceReport, request_live h, withDevice_some _ hn hd]
    simp only [hok, Bool.not_true, Bool.false_eq_true, if_false, show (s.lane d.lane).wellFormed lab = true from hlab, hset, Bool.not_false, if_true]; rfl
  · simp only [cmd]
    rw [exec, execDeviceReport, request_live h, withDevice_some _ hn hd]
    simp only [hok, Bool.not_true, Bool.false_eq_true, if_false, show (s.lane d.lane).wellFormed lab = true from hlab, hset,
      if_pos (show (s.lane d.lane).state = .waiting from hst)]; rfl
  intro ignored
  have hrun := exec_deviceReport (capture := capture) h hn hd hok hlab hset hst
  have hnamed : ∀ i, d.input = some i → kind ≠ 2 → s.namedMark d kind capture = findMark kind capture (s.mark i).fifo := by
    intro i hi hkind
    rw [State.namedMark, if_neg hkind, hi, Option.bind_some]
  refine ⟨fun i hi hkind hempty => hrun.1 (by omega) ?_, fun i hi hkind hother => hrun.1 (by omega) ?_,
    fun i k before after hi hfifo hk hign => ?_, fun hkind hign => ?_⟩
  · rw [hnamed i hi (by omega), hempty, hkind]; rfl
  · rw [hnamed i hi (by omega), hkind, findMark, if_neg (by decide), List.find?_eq_none]
    simpa using hother
  · have hkind : kind ≠ 2 := by omega
    have hmark : s.namedMark d kind capture = some k := by rw [hnamed i hi hkind, hfifo, findMark_eq hk]
    have hclaim : claimMark d.input (some k) s = s.setMark i { s.mark i with fifo := before ++ after } := by
      rw [hi, claimMark, hfifo, erase_named hk]
    have htaken := hrun.2 (Or.inr (by rw [hmark]; rfl)) (by rw [hmark]; exact hign)
    rw [hmark, hclaim] at htaken
    exact htaken
  · have hmark : s.namedMark d kind capture = none := by rw [State.namedMark, if_pos hkind]
    have hclaim : claimMark d.input none s = s := by unfold claimMark; cases d.input <;> rfl
    have htaken := hrun.2 (Or.inl hkind) (by rw [hmark]; exact hign)
    rw [hmark, hclaim] at htaken
    exact htaken

/-! ### The end of a pulse, and the cancelling and modifying of cues -/

/-- A pulse ended on its line, in the words of the statements. -/
theorem releaseLine_eq (s : State) (slot : Nat) (line : Option Nat) :
    releaseLine slot line s = match line with
      | none => s
      | some j =>
        if (s.line j).holder = some slot then s.setLine j { s.line j with level := (s.line j).idle, holder := none } else s := by
  cases line <;> rfl

/-- The device told that its cue is gone (R134). -/
theorem deviceCueGone_eq {s : State} {n : Nat} {d : Device} (hd : s.device n = some d) (completed : Bool) :
    deviceCueGone n completed s
      = raiseIf (!completed && !d.ring.isEmpty) .deviceTolerance (s.setDevice n (some (d.cueGone completed))) := by
  rw [deviceCueGone, hd]

/-- CUE_CANCEL of a slot that holds a cue. -/
theorem exec_cueCancel {s : State} {slot : Nat} {c : Cue} (h : s.resetLow = false) (hs : slot < 64) (hc : s.cue slot = some c) :
    exec (.cueCancel slot) s
      = .next (Spec.ok (reportGone c.owner false (Spec.freed s slot c)) [.code c.state.code, .code (orNone c.owner)]) := by
  rw [exec, execCueCancel, request_live h]
  simp only [slotOk_eq hs, Bool.not_true, Bool.false_eq_true, if_false, hc, freeSlot_eq hc]; rfl

/-- The end of a pulse that has run out. -/
theorem exec_cuePulseEnd {s : State} {slot : Nat} {c : Cue} (h : s.resetLow = false) (hc : s.cue slot = some c) (hst : c.state = .pulsing)
    (hrem : c.remaining = 0) (hr : s.src.selected.state = .running) : exec (.cuePulseEnd slot) s = .next (endPulse slot s) := by
  rw [exec, execCuePulseEnd, event_live h (by simp [hc, Cue.pulseOver, hst, hrem, (stalled_eq_false_iff s).mpr hr])]

/-- The end of a pulse on the devices. -/
theorem device_releaseLine (s : State) (slot : Nat) (line : Option Nat) (n : Nat) : (releaseLine slot line s).device n = s.device n := by
  rw [releaseLine_eq]
  split
  · rfl
  · split_ifs <;> rfl

/-- The freeing of a slot on the devices. -/
theorem device_freed (s : State) (slot : Nat) (c : Cue) (n : Nat) : (Spec.freed s slot c).device n = s.device n := by
  unfold Spec.freed
  cases c.line with
  | none => rfl
  | some j => dsimp only; split_ifs <;> rfl

/-- Settles O51: the end of a pulse by its guard, the cancelling by the owner's ring. -/
theorem pulsesEndAndCuesAreCancelled : Obligations.PulsesEndAndCuesAreCancelled := by
  unfold Obligations.PulsesEndAndCuesAreCancelled
  intro s slot c h hs hc idle
  have hidle : releaseLine slot c.line s = idle := releaseLine_eq s slot c.line
  refine ⟨fun hno => ?_, fun hst hrem hr => ⟨fun hleft => ?_, fun hleft ho => ?_, fun n d hleft ho hd => ?_⟩, fun ho => ?_,
    fun n d ho hd => ⟨fun hring => ?_, fun hring => ?_⟩⟩
  · rw [exec, execCuePulseEnd, event_idle]
    rcases hno with hno | hno | hno
    · simp [hc, Cue.pulseOver, hno]
    · simp [hc, Cue.pulseOver, hno.ne']
    · simp [State.stalled, hno]
  · have hfurther : c.further = true := decide_eq_true hleft
    rw [exec_cuePulseEnd h hc hst hrem hr, endPulse, hc]
    simp only [hfurther, if_true, hidle]
  · have hfurther : c.further = false := decide_eq_false (not_not_intro hleft)
    rw [exec_cuePulseEnd h hc hst hrem hr, endPulse, hc]
    simp only [hfurther, Bool.false_eq_true, if_false, hidle, ho, reportGone]
  · have hfurther : c.further = false := decide_eq_false (not_not_intro hleft)
    have hdev : (idle.setCue slot none).device n = some d := by
      rw [← hidle]; exact (device_releaseLine s slot c.line n).trans hd
    rw [exec_cuePulseEnd h hc hst hrem hr, endPulse, hc]
    simp only [hfurther, Bool.false_eq_true, if_false, ho, reportGone, hidle, deviceCueGone_eq hdev]
    rfl
  · rw [exec_cueCancel h hs hc, ho]; rfl
  all_goals
    have hdev : (Spec.freed s slot c).device n = some d := (device_freed s slot c n).trans hd
    have hempty : d.ring.isEmpty = decide (d.ring = []) := by cases d.ring <;> rfl
  · rw [exec_cueCancel h hs hc, ho, reportGone, deviceCueGone_eq hdev, Device.cueGone, hempty, decide_eq_false hring]; rfl
  · rw [exec_cueCancel h hs hc, ho, reportGone, deviceCueGone_eq hdev, Device.cueGone, hempty, decide_eq_true hring]; rfl

/-- The line after OUTPUT_SET, in the words of the statements. -/
theorem written_eq {idle drive : Nat} (l : Line) (hi : idle ≤ 2) (hd : drive ≤ 3) :
    let rest := if idle = 2 then l.idle else decide (idle = 1)
    l.written idle drive
      = if drive = 0 then { l with idle := rest }
        else { idle := rest, level := if drive = 3 then rest else decide (drive = 2), holder := none } := by
  unfold Line.written
  interval_cases idle <;> interval_cases drive <;> rfl

/-- The checks of a CUE_MODIFY against the cue. -/
theorem modifyOk_iff (c : Cue) (interval act : Nat) :
    c.modifyOk interval act = false
      ↔ (act ≠ 0 ∧ c.line = none) ∨ (c.anchor.wildcard = true ∧ interval ≠ 0)
          ∨ (¬ c.anchor.wildcard = true ∧ c.repeatCount ≠ 0 ∧ interval = 0) := by
  unfold Cue.modifyOk
  by_cases hw : c.anchor.wildcard = true <;> cases hl : c.line <;> simp [hw] <;> omega

/-- An interval as it is taken, in the words of the statements. -/
theorem intervalTaken_eq (s : State) (a : Anchor) (interval : Nat) :
    s.intervalTaken a interval = match a with
      | .label lane _ _ => min interval ((s.lane lane).nDay - 1)
      | .absolute _ | .sample _ _ => interval := by
  cases a <;> rfl

/-- Settles O52: each check in order, then the value written. -/
theorem outputsAreSetAndCuesModified : Obligations.OutputsAreSetAndCuesModified := by
  unfold Obligations.OutputsAreSetAndCuesModified
  intro s slot line idle drive act interval width h
  refine ⟨fun hbad => ?_, fun hl hi hd => ?_, fun hbad => ?_, fun hs => ?_, fun hs ha hc => ⟨?_, ?_⟩, fun c a hs ha hc => ?_⟩
  · rw [exec, execOutputSet, request_live h]
    simp only [if_pos hbad]; rfl
  · intro l rest l'
    have hok : ¬ (7 < line ∨ 2 < idle ∨ 3 < drive) := by omega
    have hwritten : (s.line line).written idle drive = l' := written_eq _ hi hd
    rw [exec, execOutputSet, request_live h]
    simp only [if_neg hok, hwritten]; rfl
  · have hno : (!slotOk slot) = true ∨ 4 < act := hbad.imp (fun hs => by rw [slotOk_eq_false hs]; rfl) id
    rw [exec, execCueModify, request_live h]
    simp only [if_pos hno]; rfl
  · rw [exec, execCueCancel, request_live h]
    simp only [slotOk_eq_false hs, Bool.not_false, if_true]; rfl
  · have hok : ¬ ((!slotOk slot) = true ∨ 4 < act) := by simp [slotOk_eq (show slot < 64 by omega)]; omega
    rw [exec, execCueModify, request_live h]
    simp only [if_neg hok, hc]; rfl
  · rw [exec, execCueCancel, request_live h]
    simp only [slotOk_eq (show slot < 64 by omega), Bool.not_true, Bool.false_eq_true, if_false, hc]; rfl
  intro wild bad
  have hact : act ≤ 4 ∧ actionOf act = a ∧ a.code = act := by
    simp only [Spec.action, List.mem_cons, Prod.mk.injEq, List.not_mem_nil, or_false] at ha
    rcases ha with ⟨rfl, rfl⟩ | ⟨rfl, rfl⟩ | ⟨rfl, rfl⟩ | ⟨rfl, rfl⟩ | ⟨rfl, rfl⟩ <;> exact ⟨by omega, rfl, rfl⟩
  have hok : ¬ ((!slotOk slot) = true ∨ 4 < act) := by simp [slotOk_eq (show slot < 64 by omega)]; omega
  rw [exec, execCueModify, request_live h]
  simp only [if_neg hok, hc]
  refine ⟨fun ho => ?_, fun ho hst hleft => ?_, fun ho hst => ⟨fun hbad => ?_, fun hgood => ?_⟩⟩
  · simp only [if_pos ho]; rfl
  · have hlast : c.state = .pulsing ∧ ¬ c.further = true := ⟨hst, by simp [Cue.further, hleft]⟩
    simp only [ho, Option.isSome_none, Bool.false_eq_true, if_false, if_pos hlast]; rfl
  all_goals
    have hlast : ¬ (c.state = .pulsing ∧ ¬ c.further = true) := by
      rintro ⟨hp, hf⟩
      exact hst.elim (fun hn => hn hp) fun hn => hf (decide_eq_true hn)
    simp only [ho, Option.isSome_none, Bool.false_eq_true, if_false, if_neg hlast]
  · simp only [(modifyOk_iff c interval act).mpr hbad, Bool.not_false, if_true]; rfl
  · have hmod : c.modifyOk interval act = true := by rw [← Bool.not_eq_false, modifyOk_iff]; exact hgood
    have hw : pulseWidth width = (max 54 (min 54000000 width)).toNat := by rw [pulseWidth, clampNat, clampInt_eq (by omega)]; rfl
    simp only [hmod, Bool.not_true, Bool.false_eq_true, if_false, hw, intervalTaken_eq, hact.2.1, hact.2.2]
    cases c.anchor <;> rfl

end Sys2Proof.Machine
end

section
/-! Labels and label counts (section 1.3): a drop-frame count by tens of minutes, minutes and frames, and the two directions that invert each
other. -/

namespace Sys2Proof.Machine

/-! ### Drop-frame counts by tens of minutes -/

/-- The labels of a minute under a drop-frame code, dropped ones included. -/
def dropMinute (code : Nat) : Nat := if code = 4 then 1800 else 3600

/-- Every count is one of a ten of minutes `q`, a minute `k` in it and a frame `y` of that minute that is not dropped (R9). -/
theorem drop_split {code : Nat} (hcode : code = 4 ∨ code = 9) (c : Nat) :
    ∃ q k y, k ≤ 9 ∧ y < dropMinute code ∧ (k ≠ 0 → dropD code ≤ y) ∧ c = dropF10 code * q + dropF1 code * k + y := by
  rcases hcode with rfl | rfl
  · simp only [dropMinute, dropD, dropF10, dropF1, if_true]
    refine ⟨c / 17982, if c % 17982 < 2 then 0 else (c % 17982 - 2) / 1798,
      if c % 17982 < 2 then c % 17982 else (c % 17982 - 2) % 1798 + 2, ?_, ?_, ?_, ?_⟩ <;> split_ifs <;> omega
  · simp only [dropMinute, dropD, dropF10, dropF1, if_neg (show ¬ 9 = 4 by decide)]
    refine ⟨c / 35964, if c % 35964 < 4 then 0 else (c % 35964 - 4) / 3596,
      if c % 35964 < 4 then c % 35964 else (c % 35964 - 4) % 3596 + 4, ?_, ?_, ?_, ?_⟩ <;> split_ifs <;> omega

/-- The nominal count of such a count is the one without any drop (R9). -/
theorem dropNominal_split {code q k y : Nat} (hcode : code = 4 ∨ code = 9) (hk : k ≤ 9) (hy : y < dropMinute code)
    (hd : k ≠ 0 → dropD code ≤ y) :
    dropNominal code (dropF10 code * q + dropF1 code * k + y) = dropMinute code * (10 * q + k) + y := by
  rcases hcode with rfl | rfl
  · simp only [dropMinute, dropD, dropF10, dropF1, if_true] at *
    have hq : (17982 * q + 1798 * k + y) / 17982 = q := by omega
    have hm : (17982 * q + 1798 * k + y) % 17982 = 1798 * k + y := by omega
    simp only [dropNominal, dropD, dropF10, dropF1, if_true, hq, hm]
    split_ifs <;> omega
  · simp only [dropMinute, dropD, dropF10, dropF1, if_neg (show ¬ 9 = 4 by decide)] at *
    have hq : (35964 * q + 3596 * k + y) / 35964 = q := by omega
    have hm : (35964 * q + 3596 * k + y) % 35964 = 3596 * k + y := by omega
    simp only [dropNominal, dropD, dropF10, dropF1, if_neg (show ¬ 9 = 4 by decide), hq, hm]
    split_ifs <;> omega

/-! ### Lanes -/

section
variable {l : Lane}

/-- A drop-frame lane has code 4 or 9, with the base of its code (R3). -/
theorem Lane.rateOk.drop (h : l.rateOk) (hdf : l.df = true) : (l.code = 4 ∧ l.base = 30) ∨ (l.code = 9 ∧ l.base = 60) := by
  obtain ⟨hrate, hcode, -⟩ := h
  rcases hcode hdf with hc | hc <;> rw [hc] at hrate
  · exact Or.inl ⟨hc, hrate.elim (fun h => h.2.2) fun h => absurd h.1 (by decide)⟩
  · exact Or.inr ⟨hc, hrate.elim (fun h => h.2.2) fun h => absurd h.1 (by decide)⟩

/-- A lane's label base is above 0 (R3, R4). -/
theorem Lane.rateOk.base_pos (h : l.rateOk) : 0 < l.base := by
  obtain ⟨⟨hc, -, hb⟩ | ⟨-, -, -, hb, -⟩, -⟩ := h
  · rw [hb]; revert hc; simp only [houseCodes, List.mem_cons, List.not_mem_nil, or_false]
    rintro (h | h | h | h | h | h | h | h | h | h) <;> rw [h] <;> decide
  · omega

/-- A lane's period lies between those of the custom rates (R3, R4). -/
theorem Lane.rateOk.period_ge (h : l.rateOk) : 225000 ≤ l.period := by
  obtain ⟨⟨hc, hp, -⟩ | ⟨-, hp, -⟩, -⟩ := h
  · rw [hp]; revert hc; simp only [houseCodes, List.mem_cons, List.not_mem_nil, or_false]
    rintro (h | h | h | h | h | h | h | h | h | h) <;> rw [h] <;> decide
  · exact hp

/-- The labelled day of a lane has labels (R6). -/
theorem Lane.rateOk.nDay_pos (h : l.rateOk) : 0 < l.nDay := by
  have := h.base_pos
  unfold Lane.nDay
  split_ifs <;> omega

/-- The labels of a count without dropping are well-formed and have it as their count (R7). -/
theorem nominal_inverts {b c : Nat} (hc : c < b * 86400) :
    let lab : Label := nominalLabel b 0 c
    lab.hh < 24 ∧ lab.mm < 60 ∧ lab.ss < 60 ∧ lab.ff < b ∧ nominalCount b lab = c := by
  have hb : 0 < b := Nat.pos_of_ne_zero (by rintro rfl; omega)
  have hdiv : c / b < 86400 := by rw [Nat.div_lt_iff_lt_mul hb]; linarith
  have hsec : (c / b / 3600 * 60 + c / b / 60 % 60) * 60 + c / b % 60 = c / b := by omega
  refine ⟨by simp only [nominalLabel]; omega, by simp only [nominalLabel]; omega, by simp only [nominalLabel]; omega,
    Nat.mod_lt _ hb, ?_⟩
  simp only [nominalLabel, nominalCount, hsec]
  exact Nat.div_add_mod' c b

/-- A label has the label of its nominal count (R7). -/
theorem nominalLabel_nominalCount {b : Nat} {lab : Label} (hm : lab.mm < 60) (hs : lab.ss < 60) (hf : lab.ff < b) :
    nominalLabel b lab.ind (nominalCount b lab) = lab := by
  have hb : 0 < b := by omega
  have hdiv : nominalCount b lab / b = (lab.hh * 60 + lab.mm) * 60 + lab.ss := by
    rw [nominalCount, Nat.mul_comm, Nat.mul_add_div hb, Nat.div_eq_of_lt hf, Nat.add_zero]
  have hmod : nominalCount b lab % b = lab.ff := by
    rw [nominalCount, Nat.mul_comm, Nat.mul_add_mod, Nat.mod_eq_of_lt hf]
  rw [nominalLabel, hdiv, hmod]
  cases lab
  simp only [Label.mk.injEq, and_true] at *
  omega

/-- The nominal count of a label within its day (R7). -/
theorem nominalCount_lt {b : Nat} {lab : Label} (hh : lab.hh < 24) (hm : lab.mm < 60) (hs : lab.ss < 60) (hf : lab.ff < b) :
    nominalCount b lab < b * 86400 := by
  have hsec : (lab.hh * 60 + lab.mm) * 60 + lab.ss + 1 ≤ 86400 := by omega
  calc nominalCount b lab < ((lab.hh * 60 + lab.mm) * 60 + lab.ss) * b + b := by rw [nominalCount]; omega
    _ = ((lab.hh * 60 + lab.mm) * 60 + lab.ss + 1) * b := by ring
    _ ≤ 86400 * b := Nat.mul_le_mul_right b hsec
    _ = b * 86400 := Nat.mul_comm _ _

/-- The checks of a well-formed label (R5). -/
theorem Lane.wellFormed_iff {lab : Label} :
    l.wellFormed lab = true ↔ lab.hh < 24 ∧ lab.mm < 60 ∧ lab.ss < 60 ∧ lab.ff < l.base ∧ lab.ind = Machine.bit l.df := by
  simp [Lane.wellFormed, and_assoc]

/-- The labels that do not exist (R8). -/
theorem Lane.labelExists_eq_false_iff {lab : Label} :
    l.labelExists lab = false ↔ l.df = true ∧ lab.mm % 10 ≠ 0 ∧ lab.ss = 0 ∧ lab.ff < dropD l.code := by
  simp only [Lane.labelExists, Bool.not_eq_false', Bool.and_eq_true, beq_iff_eq, decide_eq_true_eq, bne_iff_ne]
  tauto

/-- On a drop-frame lane: a count by its ten of minutes, minute and frame has the label at that time, which exists, and back (R9, R10). -/
theorem Lane.drop_label (h : l.rateOk) (hdf : l.df = true) {q k y : Nat} (hk : k ≤ 9) (hy : y < dropMinute l.code)
    (hd : k ≠ 0 → dropD l.code ≤ y) :
    let c := dropF10 l.code * q + dropF1 l.code * k + y
    let lab : Label := ⟨(10 * q + k) / 60, (10 * q + k) % 60, y / l.base, y % l.base, 1⟩
    l.labelOf c = lab ∧ l.countOf lab = c ∧ l.labelExists lab = true ∧ (q < 144 → l.wellFormed lab = true ∧ c < l.nDay) := by
  intro c lab
  have hlabel : l.labelOf c = nominalLabel l.base 1 (dropMinute l.code * (10 * q + k) + y) := by
    rw [Lane.labelOf, if_pos hdf, dropNominal_split (h.drop hdf |>.imp And.left And.left) hk hy hd]
  have hexists : l.labelExists lab = true := by
    rw [← Bool.not_eq_false, Lane.labelExists_eq_false_iff]
    rintro ⟨-, hm, hs, hf⟩
    rcases h.drop hdf with ⟨hc, hb⟩ | ⟨hc, hb⟩ <;> simp only [lab, hc, hb, dropD, dropMinute] at * <;> omega
  rw [hlabel, Lane.wellFormed_iff, hdf]
  refine ⟨?_, ?_, hexists, fun hq => ?_⟩
  · rcases h.drop hdf with ⟨hc, hb⟩ | ⟨hc, hb⟩ <;>
      simp only [lab, c, nominalLabel, Label.mk.injEq, hc, hb, dropMinute, if_true, if_neg (show ¬ 9 = 4 by decide)] at * <;>
      refine ⟨?_, ?_, ?_, ?_, trivial⟩ <;> omega
  · rw [Lane.countOf, if_pos hdf]
    rcases h.drop hdf with ⟨hc, hb⟩ | ⟨hc, hb⟩ <;>
      simp only [lab, c, nominalCount, hc, hb, dropMinute, dropD, dropF1, dropF10, if_true, if_neg (show ¬ 9 = 4 by decide)] at * <;> omega
  · rw [Lane.nDay, if_pos hdf]
    rcases h.drop hdf with ⟨hc, hb⟩ | ⟨hc, hb⟩ <;>
      simp only [lab, c, hc, hb, dropMinute, dropD, dropF1, dropF10, Machine.bit, if_true, if_neg (show ¬ 9 = 4 by decide)] at * <;>
      refine ⟨⟨?_, ?_, ?_, ?_, trivial⟩, ?_⟩ <;> omega

/-- The label of each count of the day is well-formed, exists and has that count (R7, R9). -/
theorem Lane.label_of_count (h : l.rateOk) {c : Nat} (hc : c < l.nDay) :
    l.wellFormed (l.labelOf c) = true ∧ l.labelExists (l.labelOf c) = true ∧ l.countOf (l.labelOf c) = c := by
  by_cases hdf : l.df = true
  · obtain ⟨q, k, y, hk, hy, hd, rfl⟩ := drop_split (h.drop hdf |>.imp And.left And.left) c
    have hq : q < 144 := by
      rw [Lane.nDay, if_pos hdf] at hc
      rcases h.drop hdf with ⟨hcode, -⟩ | ⟨hcode, -⟩ <;>
        simp only [hcode, dropF10, dropF1, if_true, if_neg (show ¬ 9 = 4 by decide)] at hc <;> omega
    obtain ⟨hlabel, hcount, hexists, hday⟩ := Lane.drop_label h hdf (q := q) hk hy hd
    rw [hlabel]
    exact ⟨(hday hq).1, hexists, hcount⟩
  · have hlabel : l.labelOf c = nominalLabel l.base 0 c := by rw [Lane.labelOf, if_neg hdf]
    rw [Lane.nDay, if_neg hdf] at hc
    obtain ⟨hh, hm, hs, hf, hn⟩ := nominal_inverts hc
    rw [hlabel, Lane.wellFormed_iff, ← Bool.not_eq_false, Lane.labelExists_eq_false_iff, Lane.countOf, if_neg hdf]
    exact ⟨⟨hh, hm, hs, hf, by simp [nominalLabel, Machine.bit, hdf]⟩, fun hno => hdf hno.1, hn⟩

/-- Each existing well-formed label has a count within the day and is the label of it (R7, R10). -/
theorem Lane.count_of_label (h : l.rateOk) {lab : Label} (hwf : l.wellFormed lab = true) (hex : l.labelExists lab = true) :
    l.countOf lab < l.nDay ∧ l.labelOf (l.countOf lab) = lab := by
  obtain ⟨hh, hm, hs, hf, hind⟩ := Lane.wellFormed_iff.mp hwf
  by_cases hdf : l.df = true
  · have hexists : ¬ (l.df = true ∧ lab.mm % 10 ≠ 0 ∧ lab.ss = 0 ∧ lab.ff < dropD l.code) := by
      rw [← Lane.labelExists_eq_false_iff, hex]; decide
    have hy : lab.ss * l.base + lab.ff < dropMinute l.code := by
      rcases h.drop hdf with ⟨hc, hb⟩ | ⟨hc, hb⟩ <;> simp only [hc, hb, dropMinute, if_true, if_neg (show ¬ 9 = 4 by decide)] at * <;> omega
    have hd : lab.mm % 10 ≠ 0 → dropD l.code ≤ lab.ss * l.base + lab.ff := by
      rcases h.drop hdf with ⟨hc, hb⟩ | ⟨hc, hb⟩ <;>
        simp only [hc, hb, hdf, dropD, true_and, if_true, if_neg (show ¬ 9 = 4 by decide)] at * <;> omega
    obtain ⟨hlabel, hcount, -, hday⟩ := Lane.drop_label h hdf (q := 6 * lab.hh + lab.mm / 10) (k := lab.mm % 10) (by omega) hy hd
    have hlab : (⟨(10 * (6 * lab.hh + lab.mm / 10) + lab.mm % 10) / 60, (10 * (6 * lab.hh + lab.mm / 10) + lab.mm % 10) % 60,
        (lab.ss * l.base + lab.ff) / l.base, (lab.ss * l.base + lab.ff) % l.base, 1⟩ : Label) = lab := by
      have hsec : (lab.ss * l.base + lab.ff) / l.base = lab.ss := by
        rw [Nat.mul_comm, Nat.mul_add_div h.base_pos, Nat.div_eq_of_lt hf, Nat.add_zero]
      have hfr : (lab.ss * l.base + lab.ff) % l.base = lab.ff := by rw [Nat.mul_comm, Nat.mul_add_mod, Nat.mod_eq_of_lt hf]
      rw [hsec, hfr]
      cases lab
      simp only [Label.mk.injEq, true_and, hdf, Machine.bit, if_true] at *
      omega
    rw [hlab] at hlabel hcount hday
    rw [hcount]
    exact ⟨(hday (by omega)).2, hlabel⟩
  · rw [Lane.countOf, if_neg hdf, Lane.nDay, if_neg hdf, Lane.labelOf, if_neg hdf]
    have hzero : lab.ind = 0 := by rw [hind]; simp [Machine.bit, hdf]
    exact ⟨nominalCount_lt hh hm hs hf, by rw [← hzero]; exact nominalLabel_nominalCount hm hs hf⟩

/-- The masked default of INVALID is well-formed and exists (R21). -/
theorem Lane.nextExisting_ok (h : l.rateOk) {lab : Label} (hwf : l.wellFormed lab = true) (hex : l.labelExists lab = false) :
    l.wellFormed (l.nextExisting lab) = true ∧ l.labelExists (l.nextExisting lab) = true := by
  obtain ⟨hh, hm, hs, -, hind⟩ := Lane.wellFormed_iff.mp hwf
  obtain ⟨hdf, -⟩ := Lane.labelExists_eq_false_iff.mp hex
  rw [Lane.wellFormed_iff, ← Bool.not_eq_false, Lane.labelExists_eq_false_iff]
  refine ⟨⟨hh, hm, hs, ?_, hind⟩, fun hno => absurd hno.2.2.2 (lt_irrefl _)⟩
  rcases h.drop hdf with ⟨hc, hb⟩ | ⟨hc, hb⟩ <;> simp [Lane.nextExisting, hc, hb, dropD]

end

/-- Settles O34: non-drop by the nominal count, drop-frame by tens of minutes. -/
theorem labelsAndCountsInvert : Obligations.LabelsAndCountsInvert := by
  unfold Obligations.LabelsAndCountsInvert
  intro l h nominal
  refine ⟨fun hdf => ⟨?_, fun c => ?_⟩, fun d f10 f1 nDay hdf hmem => ?_, fun c hc => Lane.label_of_count h hc,
    fun lab hwf hex => Lane.count_of_label h hwf hex, fun lab => Lane.labelExists_eq_false_iff⟩
  · simp [Lane.nDay, hdf]
  · simp [Lane.labelOf, hdf, nominalLabel, nominal]
  · have hlabel : ∀ c, l.labelOf c = nominal (dropNominal l.code c) 1 := fun c => by rw [Lane.labelOf, if_pos hdf]; rfl
    have hconst : dropD l.code = d ∧ dropF10 l.code = f10 ∧ dropF1 l.code = f1 ∧ l.nDay = nDay := by
      simp only [List.mem_cons, Prod.mk.injEq, List.not_mem_nil, or_false] at hmem
      rcases hmem with ⟨hc, rfl, rfl, rfl, rfl⟩ | ⟨hc, rfl, rfl, rfl, rfl⟩ <;> simp [dropD, dropF10, dropF1, Lane.nDay, hc, hdf]
    obtain ⟨rfl, rfl, rfl, rfl⟩ := hconst
    refine ⟨rfl, fun c => ⟨fun hm => ?_, fun hm => ?_⟩⟩
    · rw [hlabel, dropNominal, if_pos hm]
    · rw [hlabel, dropNominal, if_neg (by omega)]

end Sys2Proof.Machine
end

section
/-! The laws of the part (Safety), kept by the attention flags, the link, the clock sources, the reference, the Timebase, the frame-pulse outputs
and the mark inputs: what each operation of those blocks keeps, one block's laws at a time. -/

namespace Sys2Proof.Machine

/-! ### The laws by name -/

/-- Every law but that of a part held in reset and that of devices and cues naming each other, each by its name. -/
structure State.LawsApart (s : State) : Prop where
  attn : s.attnOk
  link : s.linkOk
  sources : s.sourcesOk
  trim : s.trimOk
  counts : s.tb.countsOk
  ranges : s.tb.rangesOk
  disc : s.tb.stateOk
  ref : s.refOk
  lanes : s.lanesOk
  names : s.namesOk
  fps : s.fpsOk
  marks : s.marksOk
  devices : s.devicesOk
  dues : s.duesOk
  lines : s.linesOk
  cues : s.cuesOk
  unset : s.unsetOk

/-- Every law but that of a part held in reset, each by its name. -/
structure State.Laws (s : State) : Prop extends s.LawsApart where
  owners : s.ownersOk

/-- A lawful state keeps every law by its name, and the law of a part held in reset. -/
theorem lawful_iff (s : State) : s.lawful ↔ s.resetOk ∧ s.Laws := by
  constructor
  · rintro ⟨h1, h2, h3, h4, h5, h6, h7, h8, h9, h10, h11, h12, h13, h14, h15, h16, h17, h18, h19⟩
    exact ⟨h3, ⟨⟨h1, h2, h4, h5, h6, h7, h8, h9, h10, h11, h12, h13, h14, h15, h16, h17, h19⟩, h18⟩⟩
  · rintro ⟨h3, ⟨⟨h1, h2, h4, h5, h6, h7, h8, h9, h10, h11, h12, h13, h14, h15, h16, h17, h19⟩, h18⟩⟩
    exact ⟨h1, h2, h3, h4, h5, h6, h7, h8, h9, h10, h11, h12, h13, h14, h15, h16, h17, h18, h19⟩

/-- Settles O53: each law by evaluation on the reset values. -/
theorem resetStateIsLawful : Obligations.ResetStateIsLawful := by
  unfold Obligations.ResetStateIsLawful
  refine (lawful_iff _).mpr ⟨fun h => absurd h (by decide), ⟨⟨?_, ?_, ?_, ?_, ?_, ?_, ?_, ?_, ?_, ?_, ?_, ?_, ?_, ?_, ?_, ?_, ?_⟩, ?_⟩⟩ <;> decide

/-- A raising keeps every law apart. -/
theorem State.LawsApart.raised {s : State} (h : s.LawsApart) (f : Flag) : (raise f s).LawsApart :=
  { h with
    attn := fun r hr => by
      rcases Bank.mem_put hr with rfl | hr
      · exact fun hseen => absurd hseen Bool.false_ne_true
      · exact h.attn r hr }

namespace State.Laws

variable {s : State}

/-! ### Flags and answers -/

/-- A raising keeps every law. -/
theorem raised (h : s.Laws) (f : Flag) : (raise f s).Laws := { h with attn := h.toLawsApart.raised f |>.attn }

/-- A raising under a condition keeps every law. -/
theorem raisedIf (h : s.Laws) (b : Bool) (f : Flag) : (raiseIf b f s).Laws := by
  cases b
  · exact h
  · exact h.raised f

/-- A change of the flags that marks no clear flag keeps every law. -/
theorem flagsMapped (h : s.Laws) {g : Nat → FlagRec → FlagRec}
    (hg : ∀ n f, (f.seen = true → f.set = true) → (g n f).seen = true → (g n f).set = true) : (s.mapFlags g).Laws :=
  { h with
    attn := fun r hr => by
      obtain ⟨i, hi, rfl⟩ := List.mem_mapIdx.mp hr
      exact hg _ _ (h.attn _ (List.getElem_mem hi)) }

/-- An answer held changes no law. -/
theorem answered (h : s.Laws) (a : Option Answer) : { s with answer := a }.Laws := { h with }

/-! ### The link -/

/-- A link that keeps its laws keeps every law. -/
theorem linked (h : s.Laws) {l : Link} (hl : (s.setLink l).linkOk) : (s.setLink l).Laws := { h with link := hl }

end State.Laws

section
variable {s : State}

/-- The hunter fits its length after any byte (R171). -/
theorem Hunter.take_ok {hunter : Hunter} (h : hunter.ok = true) (b : Byte) : (hunter.take b).1.ok = true := by
  cases hunter with
  | hunt => simp only [Hunter.take]; split_ifs <;> rfl
  | length =>
    simp only [Hunter.take]
    split_ifs with hb
    · simpa [Hunter.ok] using ⟨hb.1, hb.2, by omega⟩
    · rfl
  | collect len bytes =>
    simp only [Hunter.ok, decide_eq_true_eq] at h
    simp only [Hunter.take]
    split_ifs with hb <;> simp only [Hunter.ok, decide_eq_true_eq, List.length_append, List.length_singleton] at hb ⊢ <;> omega
  | check len bytes high =>
    cases high with
    | none => exact h
    | some high => rfl

/-- A received byte keeps every law. -/
theorem State.Laws.byteTaken (h : s.Laws) (b : Byte) (hb : s.link.breakWait = false) :
    (joinQueue (s.link.hunter.take b).2 (s.setLink { s.link.settled with hunter := (s.link.hunter.take b).1, gap := 0 })).Laws := by
  obtain ⟨hrate, hqueue, hhunter, hwait, hrestart, -⟩ := h.link
  have hbreak : s.link.breakWait = true → (s.link.hunter.take b).1 = .hunt := fun hc => by rw [hb] at hc; cases hc
  have hmoved : (s.setLink { s.link.settled with hunter := (s.link.hunter.take b).1, gap := 0 }).Laws :=
    h.linked ⟨hrate, hqueue, Hunter.take_ok hhunter b, hwait, hrestart, hbreak⟩
  unfold joinQueue
  split
  · exact hmoved
  · split_ifs with hq
    · refine hmoved.linked ⟨hrate, ?_, Hunter.take_ok hhunter b, hwait, hrestart, hbreak⟩
      rw [State.setLink, List.length_append]; exact hq
    · exact hmoved.raised _

/-- A framing error keeps every law. -/
theorem State.Laws.framed (h : s.Laws) (brk : Bool) : (s.setLink { s.link.settled with hunter := .hunt, gap := 0, breakWait := brk }).Laws := by
  obtain ⟨hrate, hqueue, -, hwait, hrestart, -⟩ := h.link
  exact h.linked ⟨hrate, hqueue, rfl, hwait, hrestart, fun _ => rfl⟩

/-- The end of a break keeps every law. -/
theorem State.Laws.lineHigh (h : s.Laws) : (s.setLink { s.link.settled with breakWait := false }).Laws := by
  obtain ⟨hrate, hqueue, hhunter, hwait, hrestart, -⟩ := h.link
  exact h.linked ⟨hrate, hqueue, hhunter, hwait, hrestart, fun hb => absurd hb Bool.false_ne_true⟩

/-- A gap keeps every law. -/
theorem State.Laws.gapped (h : s.Laws) (gap : Nat) :
    (if timeoutOf s.link.rate < gap then s.setLink { s.link.settled with hunter := .hunt, gap := 0 }
      else s.setLink { s.link.settled with gap := gap }).Laws := by
  obtain ⟨hrate, hqueue, hhunter, hwait, hrestart, hbreak⟩ := h.link
  split_ifs
  · exact h.linked ⟨hrate, hqueue, rfl, hwait, hrestart, fun _ => rfl⟩
  · exact h.linked ⟨hrate, hqueue, hhunter, hwait, hrestart, hbreak⟩

/-- The taking of a RESTART keeps every law. -/
theorem State.Laws.restartTaken (h : s.Laws) : (s.setLink s.link.restarting).Laws := by
  obtain ⟨hrate, hqueue, hhunter, hwait, -, hbreak⟩ := h.link
  refine h.linked ⟨hrate, hqueue, hhunter, hwait, fun htaken => ?_, hbreak⟩
  simp only [State.setLink, Link.restarting] at htaken
  split_ifs at htaken with hdue
  exact Option.ne_none_iff_isSome.mp fun hnone => hdue (Or.inl (Option.isNone_iff_eq_none.mpr hnone))

/-- The taking of a frame keeps every law. -/
theorem State.Laws.frameTaken (h : s.Laws) : (s.setLink s.link.taken).Laws := by
  obtain ⟨hrate, hqueue, hhunter, hwait, hrestart, hbreak⟩ := h.link
  exact h.linked ⟨hrate, (List.length_drop (l := s.link.queue)).trans_le ((Nat.sub_le _ _).trans hqueue), hhunter, hwait, hrestart, hbreak⟩

/-- The forming of a reply keeps every law. -/
theorem State.Laws.replyFormed (h : s.Laws) (r : Reply) : (s.setLink (s.link.formed r)).Laws := by
  obtain ⟨hrate, hqueue, hhunter, hwait, hrestart, hbreak⟩ := h.link
  unfold Link.formed
  split_ifs with hnone
  · exact h.linked ⟨hrate, hqueue, hhunter, fun _ => rfl, fun _ => rfl, hbreak⟩
  · have hsome : s.link.sending.isSome = true := by rw [← Option.not_isNone, Bool.not_eq_true']; exact Bool.eq_false_iff.mpr hnone
    exact h.linked ⟨hrate, hqueue, hhunter, fun _ => hsome, hrestart, hbreak⟩

/-- The end of a reply keeps every law. -/
theorem State.Laws.replySent (h : s.Laws) : (s.setLink s.link.sent).Laws := by
  obtain ⟨hrate, hqueue, hhunter, -, -, hbreak⟩ := h.link
  refine h.linked ⟨hrate, hqueue, hhunter, fun hw => absurd hw Bool.false_ne_true, fun htaken => ?_, hbreak⟩
  simp only [State.setLink, Link.sent] at htaken
  split_ifs at htaken with hc
  exact absurd htaken hc

/-! ### Clock sources -/

/-- Sources that keep their laws, with the selected one's calibration trim as it was, keep every law. -/
theorem State.Laws.sourced (h : s.Laws) {x : Sources} (hx : (s.setSrc x).sourcesOk) (hcal : x.selected.cal = s.src.selected.cal) :
    (s.setSrc x).Laws :=
  { h with
    sources := hx
    trim := by
      obtain ⟨hi, hp, htrim, hfree, hhold⟩ := h.trim
      exact ⟨hi, hp, htrim, fun hst => by rw [State.selectedCal, State.setSrc, hcal]; exact hfree hst, hhold⟩ }

/-- A source's own law gives its calibration trim's bound. -/
theorem State.Laws.cal_le (h : s.Laws) (which : Source) : |(s.src.of which).cal| ≤ 100000 := by
  cases which
  · exact h.sources.1.2.2.2
  · exact h.sources.2.1.2.2.2

/-- A record switched on keeps the law of its kind (R31, R32). -/
theorem SourceRec.switchedOn_ok {r : SourceRec} (h : r.ok) {wait : Nat} (hw : wait ≤ 3) :
    (r.switchedOn wait).ok ∧ (r.switchedOn wait).enable = true ∧ ((r.switchedOn wait).state = .failed → r.state = .failed) := by
  obtain ⟨hen, hprog, -, hcal⟩ := h
  cases hst : r.state <;> simp_all [SourceRec.switchedOn, SourceRec.ok]

/-- A source's calibration trim and its configuring. -/
theorem SourceRec.switchedOn_cal (r : SourceRec) (wait : Nat) : (r.switchedOn wait).cal = r.cal := by
  cases hst : r.state <;> simp [SourceRec.switchedOn, hst]

/-- A record switched off keeps the law of its kind (R31, R32). -/
theorem SourceRec.switchedOff_ok {r : SourceRec} (h : r.ok) {wait : Nat} (hw : wait ≤ 3) : (r.switchedOff wait).ok :=
  ⟨⟨fun he => absurd he Bool.false_ne_true, fun hs => absurd rfl hs⟩, fun _ => rfl, hw, h.2.2.2⟩

/-- A record written for a source keeps every law where it keeps the law of its kind, stays enabled and not failed where it is selected, and
keeps its calibration trim. -/
theorem State.Laws.recordWritten (h : s.Laws) {which : Source} {r : SourceRec} {missing : Nat} (hr : r.ok)
    (hsel : s.src.selection = which → r.enable = true) (hf : which = .xo ∨ s.src.selection = which → r.state ≠ .failed)
    (hcal : r.cal = (s.src.of which).cal)
    (hm : (which = .xo → s.src.ext.enable = false → missing = 0) ∧ (which = .ext → r.enable = false → missing = 0)) :
    (s.setSrc { s.src.setRec which r with missing := missing }).Laws := by
  obtain ⟨hxo, hext, hxof, hen, hself, -⟩ := h.sources
  cases which with
  | xo =>
    refine h.sourced ⟨hr, hext, hf (Or.inl rfl), ?_, ?_, hm.1 rfl⟩ ?_ <;> cases hs : s.src.selection <;>
      simp_all [State.setSrc, Sources.setRec, Sources.of, Sources.selected]
  | ext =>
    refine h.sourced ⟨hxo, hr, hxof, ?_, ?_, hm.2 rfl⟩ ?_ <;> cases hs : s.src.selection <;>
      simp_all [State.setSrc, Sources.setRec, Sources.of, Sources.selected]

/-- The selected source's record is enabled and has not failed. -/
theorem State.Laws.selected_ok (h : s.Laws) {which : Source} (hsel : s.src.selection = which) :
    (s.src.of which).enable = true ∧ (s.src.of which).state ≠ .failed := by
  subst hsel
  exact ⟨h.sources.2.2.2.1, h.sources.2.2.2.2.1⟩

/-- A source's record keeps the law of its kind. -/
theorem State.Laws.record_ok (h : s.Laws) (which : Source) : (s.src.of which).ok := by
  cases which
  · exact h.sources.1
  · exact h.sources.2.1

/-- XO has not failed, and the selected source has not. -/
theorem State.Laws.not_failed (h : s.Laws) {which : Source} (hw : which = .xo ∨ s.src.selection = which) : (s.src.of which).state ≠ .failed := by
  rcases hw with rfl | hsel
  · exact h.sources.2.2.1
  · exact (h.selected_ok hsel).2

/-- The switching on of a source keeps every law. -/
theorem State.Laws.switchedOn (h : s.Laws) (which : Source) {wait : Nat} (hw : wait ≤ 3) :
    (s.setSrc (s.src.setRec which ((s.src.of which).switchedOn wait))).Laws := by
  obtain ⟨hok, henable, hfailed⟩ := SourceRec.switchedOn_ok (h.record_ok which) hw
  have hmissing : which = .ext → ((s.src.of which).switchedOn wait).enable = false → s.src.missing = 0 :=
    fun _ he => absurd (henable.symm.trans he) (by decide)
  have hrun := h.recordWritten (missing := s.src.missing) hok (fun _ => henable) (fun hc hf => h.not_failed hc (hfailed hf))
    (SourceRec.switchedOn_cal _ _) ⟨fun _ => h.sources.2.2.2.2.2, hmissing⟩
  cases which <;> exact hrun

/-- The switching off of a source that is not selected keeps every law. -/
theorem State.Laws.switchedOff (h : s.Laws) {which : Source} {wait : Nat} (hw : wait ≤ 3) (hsel : s.src.selection ≠ which) {missing : Nat}
    (hm : (which = .ext → missing = 0) ∧ (which = .xo → missing = s.src.missing)) :
    (s.setSrc { s.src.setRec which ((s.src.of which).switchedOff wait) with missing := missing }).Laws := by
  have hoff : ((s.src.of which).switchedOff wait).state ≠ .failed := fun hc => by cases hc
  exact h.recordWritten (SourceRec.switchedOff_ok (h.record_ok which) hw) (fun hs => absurd hs hsel) (fun _ => hoff) rfl
    ⟨fun hx he => (hm.2 hx).trans (h.sources.2.2.2.2.2 he), fun he _ => hm.1 he⟩

/-- The end of a stabilization wait keeps every law. -/
theorem State.Laws.waitEnded (h : s.Laws) {which : Source} (hst : (s.src.of which).state = .starting) :
    (s.setSrc (s.src.setRec which { s.src.of which with state := .running, progress := 0 })).Laws := by
  obtain ⟨hen, -, hwait, hcal⟩ := h.record_ok which
  have henable : (s.src.of which).enable = true := hen.mpr (by rw [hst]; decide)
  have hmissing : which = .ext → (s.src.of which).enable = false → s.src.missing = 0 := fun _ he => absurd (henable.symm.trans he) (by decide)
  have hrun := h.recordWritten (missing := s.src.missing) (r := { s.src.of which with state := .running, progress := 0 })
    ⟨⟨fun _ => SrcState.noConfusion, fun _ => henable⟩, fun _ => rfl, hwait, hcal⟩ (fun _ => henable) (fun _ => SrcState.noConfusion) rfl
    ⟨fun _ => h.sources.2.2.2.2.2, hmissing⟩
  cases which <;> exact hrun

/-- A record after a cycle keeps the law of its kind. -/
theorem SourceRec.cycled_ok {r : SourceRec} (h : r.ok) : r.cycled.ok ∧ r.cycled.enable = r.enable ∧ r.cycled.state = r.state ∧ r.cycled.cal = r.cal := by
  unfold SourceRec.cycled
  split_ifs with hst
  · exact ⟨⟨h.1, fun hn => absurd hst hn, h.2.2⟩, rfl, rfl, rfl⟩
  · exact ⟨h, rfl, rfl, rfl⟩

/-- A cycle on a source's wait progress keeps every law. -/
theorem State.Laws.cycled (h : s.Laws) (which : Source) {missing : Nat} (hm : s.src.ext.enable = false → missing = 0) :
    (s.setSrc { s.src.setRec which (s.src.of which).cycled with missing := missing }).Laws := by
  obtain ⟨hok, hen, hst, hcal⟩ := SourceRec.cycled_ok (h.record_ok which)
  refine h.recordWritten hok (fun hsel => hen.trans (h.selected_ok hsel).1) (fun hc hf => h.not_failed hc (hst.symm.trans hf)) hcal
    ⟨fun _ => hm, fun hx he => hm ?_⟩
  subst hx
  exact hen.symm.trans he

/-- EXT's return keeps every law. -/
theorem State.Laws.extReturned (h : s.Laws) (hst : s.src.ext.state = .failed) : (returnExt s).Laws := by
  obtain ⟨hen, -, hwait, hcal⟩ := h.record_ok .ext
  have henable : s.src.ext.enable = true := hen.mpr (by simp [Sources.of, hst])
  exact h.recordWritten (which := .ext) (r := { s.src.ext with state := .starting, progress := 0 }) (missing := 0)
    ⟨⟨fun _ => SrcState.noConfusion, fun _ => henable⟩, fun hn => absurd rfl hn, hwait, hcal⟩ (fun _ => henable)
    (fun _ => SrcState.noConfusion) rfl ⟨fun _ _ => rfl, fun _ _ => rfl⟩

/-- A missing cycle keeps every law. -/
theorem State.Laws.extMissing (h : s.Laws) (he : s.src.ext.enable = true) :
    (s.setSrc { s.src with
      missing := s.src.missing + 1
      ext := if s.src.ext.state = .starting then { s.src.ext with progress := 0 } else s.src.ext }).Laws := by
  obtain ⟨hen, hprog, hwait, hcal⟩ := h.record_ok .ext
  have hno : ∀ n, s.src.ext.enable = false → n = 0 := fun n hf => absurd (he.symm.trans hf) (by decide)
  split_ifs with hst
  · exact h.recordWritten (which := .ext) (r := { s.src.ext with progress := 0 }) (missing := s.src.missing + 1)
      ⟨hen, fun _ => rfl, hwait, hcal⟩ (fun _ => he) (fun hc => h.not_failed (which := .ext) hc) rfl ⟨fun _ => hno _, fun _ => hno _⟩
  · exact h.recordWritten (which := .ext) (r := s.src.ext) (missing := s.src.missing + 1)
      ⟨hen, hprog, hwait, hcal⟩ (fun _ => he) (fun hc => h.not_failed (which := .ext) hc) rfl ⟨fun _ => hno _, fun _ => hno _⟩

/-! ### The Timebase -/

/-- The laws of the Timebase, under the selected source's calibration trim. -/
structure Timebase.Laws (t : Timebase) (cal : Int) : Prop where
  trim : |t.i| ≤ 100000 ∧ |t.p| ≤ 31250000 ∧ |t.trim| ≤ 100000 ∧ (t.state = .freerun → t.i = cal ∧ t.p = 0 ∧ t.trim = t.i)
    ∧ (t.state = .holdover → t.p = 0 ∧ t.trim = t.i)
  counts : t.countsOk
  ranges : t.rangesOk
  disc : t.stateOk

/-- A lawful state's Timebase. -/
theorem State.Laws.tb_laws (h : s.Laws) : s.tb.Laws s.selectedCal := ⟨h.trim, h.counts, h.ranges, h.disc⟩

/-- A Timebase that keeps its laws, the set time and the reference view keeps every law. -/
theorem State.Laws.timed (h : s.Laws) {t : Timebase} (ht : t.Laws s.selectedCal) (hset : t.set = s.tb.set) (hview : t.refPresent = s.tb.refPresent) :
    (s.setTb t).Laws :=
  { h with
    trim := ht.trim
    counts := ht.counts
    ranges := ht.ranges
    disc := ht.disc
    ref := ⟨(Eq.congr hview rfl).trans h.ref.1, h.ref.2⟩
    unset := fun hu => h.unset (hset.symm.trans hu) }

/-- A trim clamped lies in its range (R68). -/
theorem clampTrim_le (v : Int) : |clampTrim v| ≤ 100000 := by
  rw [clampTrim_eq, Spec.trim, abs_le]; omega

section
variable {t : Timebase} {cal : Int}

/-- FREERUN entered, the loop not to run (R73 to R75). -/
theorem Timebase.toFreerun_laws (hr : t.rangesOk) (hcal : |cal| ≤ 100000) (hoff : t.enable = true → t.refPresent = false) :
    (t.toFreerun cal).Laws cal where
  trim := by simpa [Timebase.toFreerun] using hcal
  counts := by simp [Timebase.countsOk, Timebase.toFreerun]
  ranges := hr
  disc := by simpa [Timebase.stateOk, Timebase.toFreerun] using hoff

/-- LOCKING entered, the loop to run (R66). -/
theorem Timebase.toLocking_laws (hr : t.rangesOk) {i p : Int} (hi : |i| ≤ 100000) (hp : |p| ≤ 31250000)
    (hon : t.enable = true ∧ t.refPresent = true) : (t.toLocking i p).Laws cal where
  trim := by simpa [Timebase.toLocking] using ⟨hi, hp, clampTrim_le _⟩
  counts := by simp [Timebase.countsOk, Timebase.toLocking]
  ranges := hr
  disc := by simpa [Timebase.stateOk, Timebase.toLocking] using hon

/-- HOLDOVER entered, without the reference (R72). -/
theorem Timebase.toHoldover_laws (hr : t.rangesOk) (hi : |t.i| ≤ 100000) (hon : t.enable = true ∧ t.refPresent = false) :
    t.toHoldover.Laws cal where
  trim := by simpa [Timebase.toHoldover] using hi
  counts := by simp [Timebase.countsOk, Timebase.toHoldover]
  ranges := hr
  disc := by simp [Timebase.stateOk, Timebase.toHoldover, hon]

/-- The states in which the loop runs. -/
theorem Timebase.Laws.running (h : t.Laws cal) (hst : t.state = .locking ∨ t.state = .locked) : t.enable = true ∧ t.refPresent = true :=
  h.disc.1.mp hst

/-- The state in which the loop does not run though it is enabled with the reference PRESENT: none. -/
theorem Timebase.Laws.not_running (h : t.Laws cal) (hst : t.state = .freerun ∨ t.state = .holdover) (he : t.enable = true) : t.refPresent = false := by
  rw [← Bool.not_eq_true]
  intro hp
  rcases h.disc.1.mpr ⟨he, hp⟩ with hc | hc <;> rw [hc] at hst <;> simp at hst

/-- The expiry of a holdover keeps every law. -/
theorem State.Laws.holdoverEnded (h : s.Laws) (hst : s.tb.state = .holdover) : (expireHoldover s).Laws := by
  refine State.Laws.raised (h.timed (Timebase.toFreerun_laws h.ranges (h.cal_le _) fun he => h.tb_laws.not_running (Or.inr hst) he) rfl rfl) _

/-- A source change keeps the Timebase's laws, under the new calibration trim (R34). -/
theorem Timebase.Laws.sourceChanged {new : Int} (h : t.Laws cal) (hn : |new| ≤ 100000) : (t.sourceChanged new).Laws new := by
  obtain ⟨hi, hp, htrim, hfree, hhold⟩ := h.trim
  unfold Timebase.sourceChanged
  split
  · next hst => exact ⟨by simpa [hst] using hn, h.counts, h.ranges, h.disc⟩
  · next hst => exact Timebase.toLocking_laws h.ranges hn (by decide) (h.running (Or.inl hst))
  · next hst => exact Timebase.toLocking_laws h.ranges hn (by decide) (h.running (Or.inr hst))
  · next hst => exact ⟨by simpa [hst] using hn, h.counts, h.ranges, h.disc⟩

/-- What a source change keeps of the Timebase. -/
theorem Timebase.sourceChanged_set (t : Timebase) (cal : Int) :
    (t.sourceChanged cal).set = t.set ∧ (t.sourceChanged cal).refPresent = t.refPresent := by
  unfold Timebase.sourceChanged
  split <;> exact ⟨rfl, rfl⟩

end

/-- The change of the selection to a source that runs, or falls back, keeps every law. -/
theorem State.Laws.selected (h : s.Laws) {x : Sources} {which : Source} (hx : (s.setSrc { x with selection := which }).sourcesOk) :
    (changeSource which (s.setSrc x)).Laws := by
  have hcal : |(x.of which).cal| ≤ 100000 := by
    cases which
    · exact hx.1.2.2.2
    · exact hx.2.1.2.2.2
  have htb := h.tb_laws.sourceChanged hcal
  obtain ⟨hset, hview⟩ := s.tb.sourceChanged_set (x.of which).cal
  exact { h with
    sources := hx
    trim := htb.trim
    counts := htb.counts
    ranges := htb.ranges
    disc := htb.disc
    ref := ⟨(Eq.congr hview rfl).trans h.ref.1, h.ref.2⟩
    unset := fun hu => h.unset (hset.symm.trans hu) }

/-- The selecting of a running source keeps every law. -/
theorem State.Laws.sourceSelected (h : s.Laws) {which : Source} (hst : (s.src.of which).state = .running) : (changeSource which s).Laws := by
  obtain ⟨hxo, hext, hxof, -, -, hmissing⟩ := h.sources
  have henable : (s.src.of which).enable = true := (h.record_ok which).1.mpr (by rw [hst]; decide)
  have hrunning : (s.src.of which).state ≠ .failed := by rw [hst]; decide
  exact h.selected (x := s.src) ⟨hxo, hext, hxof, henable, hrunning, hmissing⟩

/-- XO as a fallback finds it (R37). -/
theorem SourceRec.fallback_ok {r : SourceRec} (h : r.ok) (hf : r.state ≠ .failed) :
    r.fallback.ok ∧ r.fallback.enable = true ∧ r.fallback.state ≠ .failed := by
  obtain ⟨hen, hprog, hwait, hcal⟩ := h
  unfold SourceRec.fallback
  split_ifs with hst
  · exact ⟨⟨⟨fun _ => SrcState.noConfusion, fun _ => rfl⟩, fun _ => rfl, hwait, hcal⟩, rfl, SrcState.noConfusion⟩
  · exact ⟨⟨hen, hprog, hwait, hcal⟩, hen.mpr hst, hf⟩

/-- EXT's loss keeps every law. -/
theorem State.Laws.extLost (h : s.Laws) (hst : s.src.ext.state = .starting ∨ s.src.ext.state = .running) : (loseExt s).Laws := by
  obtain ⟨hxo, hext, hxof, hen, hself, hmissing⟩ := h.sources
  have henable : s.src.ext.enable = true := hext.1.mpr (by rcases hst with hst | hst <;> rw [hst] <;> decide)
  have hfailed : ({ s.src.ext with state := .failed, progress := 0 } : SourceRec).ok :=
    ⟨⟨fun _ => SrcState.noConfusion, fun _ => henable⟩, fun _ => rfl, hext.2.2⟩
  cases hsel : s.src.selection with
  | xo =>
    rw [loseExt_of_xo hsel]
    exact State.Laws.raised (h.recordWritten (which := .ext) (missing := s.src.missing) hfailed (fun hs => by rw [hsel] at hs; cases hs)
      (fun hc => by rcases hc with hc | hc <;> [cases hc; (rw [hsel] at hc; cases hc)]) rfl
      ⟨fun _ => hmissing, fun _ => hmissing⟩) _
  | ext =>
    obtain ⟨hok, hon, hnf⟩ := SourceRec.fallback_ok hxo hxof
    rw [loseExt_of_ext hsel]
    exact State.Laws.selected (which := .xo) (((h.raised .sourceFailed).raised .sourceFallback).raisedIf _ _)
      ⟨hok, hfailed, hnf, hon, hnf, hmissing⟩

/-- A calibration trim stored keeps every law (R35, R74). -/
theorem State.Laws.trimStored (h : s.Laws) (which : Source) {v : Int} (hv : |v| ≤ 100000) {t : State}
    (ht : t = s.setSrc (s.src.setRec which { s.src.of which with cal := v })) :
    (if s.src.selection = which ∧ s.tb.state = .freerun then t.setTb { t.tb with i := v, p := 0, trim := v } else t).Laws := by
  obtain ⟨hxo, hext, hxof, hen, hself, hmissing⟩ := h.sources
  obtain ⟨hi, hp, htrim, hfree, hhold⟩ := h.trim
  have hsources : (s.setSrc (s.src.setRec which { s.src.of which with cal := v })).sourcesOk := by
    cases which with
    | xo => exact ⟨⟨hxo.1, hxo.2.1, hxo.2.2.1, hv⟩, hext, hxof, by cases hs : s.src.selection <;> simp_all [State.setSrc, Sources.setRec, Sources.of, Sources.selected],
        by cases hs : s.src.selection <;> simp_all [State.setSrc, Sources.setRec, Sources.of, Sources.selected], hmissing⟩
    | ext => exact ⟨hxo, ⟨hext.1, hext.2.1, hext.2.2.1, hv⟩, hxof, by cases hs : s.src.selection <;> simp_all [State.setSrc, Sources.setRec, Sources.of, Sources.selected],
        by cases hs : s.src.selection <;> simp_all [State.setSrc, Sources.setRec, Sources.of, Sources.selected], hmissing⟩
  subst ht
  by_cases hsel : s.src.selection = which
  · have hcal : (s.setSrc (s.src.setRec which { s.src.of which with cal := v })).selectedCal = v := by
      subst hsel
      cases hs : s.src.selection <;> simp [State.selectedCal, State.setSrc, Sources.setRec, Sources.selected, Sources.of, hs]
    by_cases hst : s.tb.state = .freerun
    · rw [if_pos ⟨hsel, hst⟩]
      exact { h with
        sources := hsources
        trim := ⟨hv, by simp [State.setTb], hv, fun _ => ⟨hcal.symm, rfl, rfl⟩, fun hc => absurd (hst.symm.trans hc) (by decide)⟩ }
    · rw [if_neg fun hc => hst hc.2]
      exact { h with sources := hsources, trim := ⟨hi, hp, htrim, fun hc => absurd hc hst, hhold⟩ }
  · have hcal : (s.setSrc (s.src.setRec which { s.src.of which with cal := v })).selectedCal = s.selectedCal := by
      cases which <;> cases hs : s.src.selection <;> simp_all [State.selectedCal, State.setSrc, Sources.setRec, Sources.selected, Sources.of]
    rw [if_neg fun hc => hsel hc.1]
    exact h.sourced hsources hcal

end

end Sys2Proof.Machine
end

section
/-! What the reference, the discipline and the counting of PT keep of the laws, and the frame-pulse outputs and mark inputs. -/

namespace Sys2Proof.Machine

section
variable {s : State} {t : Timebase} {cal : Int}

/-! ### The discipline's settings -/

/-- No proportional term lies in its range. -/
theorem zero_le_p : |(0 : Int)| ≤ 31250000 := by decide

/-- The arrival of the reference keeps the Timebase's laws (R65). -/
theorem Timebase.Laws.refArrived (h : t.Laws cal) (hcal : |cal| ≤ 100000) : (t.refArrived cal).Laws cal := by
  obtain ⟨hi, hp, htrim, hfree, hhold⟩ := h.trim
  unfold Timebase.refArrived
  dsimp only
  split
  · next hst =>
    split_ifs with he
    · exact Timebase.toLocking_laws (t := { t with refPresent := true }) h.ranges hcal zero_le_p ⟨he, rfl⟩
    · exact ⟨h.trim, h.counts, h.ranges, ⟨⟨fun hc => absurd hc (by rw [hst]; decide), fun hc => absurd hc.1 he⟩, fun hc => absurd (hst.symm.trans hc) (by decide)⟩⟩
  · next hst => exact Timebase.toLocking_laws (t := { t with refPresent := true }) h.ranges hi zero_le_p ⟨(h.disc.2 hst).1, rfl⟩
  · next hst => exact ⟨h.trim, h.counts, h.ranges, ⟨⟨fun _ => ⟨(h.running (Or.inl hst)).1, rfl⟩, fun _ => Or.inl hst⟩, fun hc => absurd (hst.symm.trans hc) (by decide)⟩⟩
  · next hst => exact ⟨h.trim, h.counts, h.ranges, ⟨⟨fun _ => ⟨(h.running (Or.inr hst)).1, rfl⟩, fun _ => Or.inr hst⟩, fun hc => absurd (hst.symm.trans hc) (by decide)⟩⟩

/-- What the arrival of the reference sets and keeps. -/
theorem Timebase.refArrived_set (t : Timebase) (cal : Int) : (t.refArrived cal).set = t.set ∧ (t.refArrived cal).refPresent = true := by
  unfold Timebase.refArrived
  dsimp only
  split
  · split_ifs <;> exact ⟨rfl, rfl⟩
  all_goals exact ⟨rfl, rfl⟩

/-- The loss of the reference keeps the Timebase's laws (R65). -/
theorem Timebase.Laws.refLost (h : t.Laws cal) : t.refLost.Laws cal := by
  unfold Timebase.refLost
  dsimp only
  split
  · next hst => exact Timebase.toHoldover_laws h.ranges h.trim.1 ⟨(h.running (Or.inl hst)).1, rfl⟩
  · next hst => exact Timebase.toHoldover_laws h.ranges h.trim.1 ⟨(h.running (Or.inr hst)).1, rfl⟩
  · next hst => exact ⟨h.trim, h.counts, h.ranges, ⟨⟨fun hc => absurd hc (by rw [hst]; decide), fun hc => absurd hc.2 Bool.false_ne_true⟩, fun hc => absurd (hst.symm.trans hc) (by decide)⟩⟩
  · next hst => exact ⟨h.trim, h.counts, h.ranges, ⟨⟨fun hc => absurd hc (by rw [hst]; decide), fun hc => absurd hc.2 Bool.false_ne_true⟩, fun _ => ⟨(h.disc.2 hst).1, rfl⟩⟩⟩

/-- What the loss of the reference sets and keeps. -/
theorem Timebase.refLost_set (t : Timebase) : t.refLost.set = t.set ∧ t.refLost.refPresent = false := by
  unfold Timebase.refLost
  dsimp only
  split <;> exact ⟨rfl, rfl⟩

/-- The switching of the discipline keeps the Timebase's laws (R75). -/
theorem Timebase.Laws.switched (h : t.Laws cal) (hcal : |cal| ≤ 100000) (enable : Bool) : (t.switched enable cal).Laws cal := by
  unfold Timebase.switched
  split_ifs with hsame hen hlock hfree
  · exact h
  · exact Timebase.toLocking_laws (t := { t with enable := true }) h.ranges hcal zero_le_p ⟨rfl, hlock.2⟩
  · have hoff : t.enable = false := by cases he : t.enable <;> simp_all
    have hst : t.state = .freerun := by
      cases hs : t.state
      · rfl
      · exact absurd (h.running (Or.inl hs)).1 (by rw [hoff]; decide)
      · exact absurd (h.running (Or.inr hs)).1 (by rw [hoff]; decide)
      · exact absurd (h.disc.2 hs).1 (by rw [hoff]; decide)
    exact ⟨h.trim, h.counts, h.ranges, ⟨⟨fun hc => absurd hc (by simp [hst]), fun hc => absurd ⟨hst, hc.2⟩ hlock⟩, fun hc => absurd (hst.symm.trans hc) (by decide)⟩⟩
  · exact ⟨h.trim, h.counts, h.ranges, ⟨⟨fun hc => absurd hc (by simp [hfree]), fun hc => absurd hc.1 Bool.false_ne_true⟩, fun hc => absurd (hfree.symm.trans hc) (by decide)⟩⟩
  · exact Timebase.toFreerun_laws h.ranges hcal fun hc => absurd hc Bool.false_ne_true

/-- What the switching of the discipline keeps. -/
theorem Timebase.switched_set (t : Timebase) (enable : Bool) (cal : Int) :
    (t.switched enable cal).set = t.set ∧ (t.switched enable cal).refPresent = t.refPresent := by
  unfold Timebase.switched
  split_ifs <;> exact ⟨rfl, rfl⟩

/-- The configuring of the discipline keeps every law (R75, R76). -/
theorem State.Laws.disciplined (h : s.Laws) {t : Timebase} (ht : t.Laws s.selectedCal) (hset : t.set = s.tb.set) (hview : t.refPresent = s.tb.refPresent) :
    (if (s.setTb t).tb.overLimit then expireHoldover (s.setTb t) else s.setTb t).Laws := by
  have hs := h.timed ht hset hview
  split_ifs with hover
  · exact hs.holdoverEnded (Timebase.overLimit_iff _ |>.mp hover).1
  · exact hs

/-- The settings clamped lie in their ranges (R57, R75). -/
theorem State.Laws.settings (h : s.Laws) (window threshold : Int) (limit : Nat) :
    ({ s.tb with window := clampInt 27 27000 window, threshold := clampInt 540 540000 threshold, limit := clampNat 10 86400 limit } : Timebase).Laws
      s.selectedCal := by
  obtain ⟨hpt, hfrac, -⟩ := h.ranges
  refine ⟨h.trim, h.counts, ⟨hpt, hfrac, ?_⟩, h.disc⟩
  rw [clampInt_eq (by omega), clampInt_eq (by omega), clampNat_natCast (by omega)]
  dsimp only
  omega

/-! ### The reference -/

/-- The laws of the Reference Monitor, each by name, under the Timebase's reference view. -/
structure RefMon.Laws (r : RefMon) (view : Bool) : Prop where
  view : view = true ↔ r.state = .present
  expects : r.expectedPt.isSome = true ↔ r.state = .present
  present : r.state = .present → r.lastAccepted.isSome = true ∧ r.house.getD 0 ∈ houseCodes
  missless : r.state ≠ .present → r.misses = 0
  misses : r.misses ≤ 3
  prev : r.state ≠ .qualifying → r.prev = none
  below : r.state = .qualifying → r.qualify ≤ 7
  qualify : r.qualify ≤ 8
  candidate : ∀ k ∈ r.candidate, k ∈ houseCodes
  house : ∀ k ∈ r.house, k ∈ houseCodes
  config : r.filter ≤ 3 ∧ r.expected ≤ 10 ∧ |r.delay| ≤ delayRange r.expected

/-- The monitor's laws by name. -/
theorem refOk_iff_laws (s : State) : s.refOk ↔ s.ref.Laws s.tb.refPresent := by
  constructor
  · rintro ⟨h1, h2, h3, h4, h5, h6, h7, h8, h9, h10, h11⟩
    exact ⟨h1, h2, h3, h4, h5, h6, h7, h8, h9, h10, h11⟩
  · rintro ⟨h1, h2, h3, h4, h5, h6, h7, h8, h9, h10, h11⟩
    exact ⟨h1, h2, h3, h4, h5, h6, h7, h8, h9, h10, h11⟩

/-- A lawful state's monitor. -/
theorem State.Laws.ref_laws (h : s.Laws) : s.ref.Laws s.tb.refPresent := (refOk_iff_laws s).mp h.ref

/-- A monitor that keeps its laws keeps every law. -/
theorem State.Laws.referenced (h : s.Laws) {r : RefMon} (hr : r.Laws s.tb.refPresent) : (s.setRef r).Laws :=
  { h with ref := (refOk_iff_laws _).mpr hr }

/-- A monitor and a Timebase that keep their laws together keep every law. -/
theorem State.Laws.viewed (h : s.Laws) {r : RefMon} (ht : t.Laws s.selectedCal) (hset : t.set = s.tb.set) (hr : r.Laws t.refPresent) :
    ((s.setRef r).setTb t).Laws :=
  { h with
    trim := ht.trim
    counts := ht.counts
    ranges := ht.ranges
    disc := ht.disc
    ref := (refOk_iff_laws _).mpr hr
    unset := fun hu => h.unset (hset.symm.trans hu) }

section
variable {r : RefMon} {view : Bool}

/-- The monitor while it is not PRESENT. -/
theorem RefMon.Laws.not_present (h : r.Laws view) (hst : r.state ≠ .present) : view = false ∧ r.expectedPt = none ∧ r.misses = 0 := by
  refine ⟨?_, ?_, h.missless hst⟩
  · rw [← Bool.not_eq_true, h.view]; exact hst
  · rw [← Option.not_isSome_iff_eq_none, h.expects]; exact hst

/-- A stay in QUALIFYING that begins, the reference not PRESENT (R44, R55). -/
theorem RefMon.restart_laws (h : r.Laws view) (prev : Option Int) :
    ({ r.restart prev with expectedPt := none, misses := 0 } : RefMon).Laws false :=
  { h with
    view := by simp [RefMon.restart]
    expects := by simp [RefMon.restart]
    present := fun hc => by simp [RefMon.restart] at hc
    missless := fun _ => rfl
    misses := by simp
    prev := fun hc => absurd rfl hc
    below := fun _ => by simp [RefMon.restart]
    qualify := by simp [RefMon.restart]
    candidate := fun k hk => by simp [RefMon.restart] at hk }

/-- The first edge keeps every law (R44). -/
theorem State.Laws.firstEdge (h : s.Laws) (hst : s.ref.state = .absent) (adj : Int) : (s.setRef (s.ref.restart (some adj))).Laws := by
  obtain ⟨hview, hexp, hmiss⟩ := h.ref_laws.not_present (by rw [hst]; decide)
  have hr := RefMon.restart_laws h.ref_laws (some adj)
  rw [← hexp, ← hmiss, ← hview] at hr
  exact h.referenced hr

/-- An edge that measures no period keeps every law (R44). -/
theorem State.Laws.edgeHeld (h : s.Laws) (hst : s.ref.state = .qualifying) (adj : Int) : (s.setRef { s.ref with prev := some adj }).Laws :=
  h.referenced { h.ref_laws with prev := fun hc => absurd hst hc }

/-- A period judged: the laws but that of the count, and where the count is complete (R46, R47). -/
theorem RefMon.Laws.judged (h : r.Laws view) (hst : r.state = .qualifying) (t : Int) :
    (r.judgePeriod t).qualify ≤ 8 ∧ ((r.judgePeriod t).qualify ≤ 7 → (r.judgePeriod t).Laws view)
      ∧ (8 ≤ (r.judgePeriod t).qualify → ∀ adj, ((r.judgePeriod t).qualified adj).Laws true) := by
  have hbelow := h.below hst
  have hmiss := (h.not_present (by rw [hst]; decide)).2.2
  unfold RefMon.judgePeriod
  split
  · exact ⟨by simp, fun _ => { h with below := fun _ => by simp, qualify := by simp, candidate := fun k hk => by simp at hk }, fun hc => by simp at hc⟩
  · next k hk =>
    have hcode : k ∈ houseCodes := List.mem_of_find?_eq_some hk
    have hcand : ∀ j ∈ some k, j ∈ houseCodes := fun j hj => by cases hj; exact hcode
    split_ifs with hm hc
    · exact ⟨by simp, fun _ => { h with below := fun _ => by simp, qualify := by simp, candidate := hcand }, fun hc => by simp at hc⟩
    · refine ⟨by simp only; omega, fun hle => { h with below := fun _ => hle, qualify := hle.trans (by decide) }, fun hge adj => ?_⟩
      exact { h with
        view := by simp [RefMon.qualified]
        expects := by simp [RefMon.qualified]
        present := fun _ => ⟨rfl, by simp only [RefMon.qualified, hc]; exact hcode⟩
        missless := fun _ => rfl
        misses := by simp [RefMon.qualified]
        prev := fun _ => rfl
        below := fun hc => by simp [RefMon.qualified] at hc
        qualify := by simp only [RefMon.qualified]; omega
        house := fun j hj => by simp only [RefMon.qualified, hc] at hj; exact hcand j hj }
    · exact ⟨by simp, fun _ => { h with below := fun _ => by simp, qualify := by simp, candidate := hcand }, fun hc => by simp at hc⟩

/-- An accepted edge keeps the monitor's laws (R49). -/
theorem RefMon.Laws.accepted (h : r.Laws view) (hst : r.state = .present) (adj : Int) : (r.accepted adj).Laws view :=
  { h with
    expects := by simp [RefMon.accepted, hst]
    present := fun _ => ⟨rfl, (h.present hst).2⟩
    missless := fun _ => rfl
    misses := by simp [RefMon.accepted] }

/-- A move of PT keeps the monitor's laws (R53). -/
theorem RefMon.Laws.moved (h : r.Laws view) (a : Int) : (r.moved a).Laws view :=
  { h with
    expects := by simpa [RefMon.moved] using h.expects
    present := fun hst => by simpa [RefMon.moved] using h.present hst
    prev := fun hst => by simp [RefMon.moved, h.prev hst] }

end

/-- A miss keeps every law (R50, R51). -/
theorem State.Laws.missed (h : s.Laws) (hst : s.ref.state = .present) : (missEdge s).Laws := by
  have hr := h.ref_laws
  unfold missEdge
  dsimp only
  split_ifs with hfour
  · have hlost : ({ s.ref with state := .absent, expectedPt := none, misses := 0 } : RefMon).Laws s.tb.refLost.refPresent := by
      rw [s.tb.refLost_set.2]
      exact { hr with
        view := by simp
        expects := by simp
        present := fun hc => by simp at hc
        missless := fun _ => rfl
        misses := by simp
        prev := fun _ => hr.prev (by rw [hst]; decide)
        below := fun hc => by simp at hc }
    exact (h.raised .refLost).viewed h.tb_laws.refLost s.tb.refLost_set.1 hlost
  · exact h.referenced { hr with
      expects := by simpa using hr.expects
      missless := fun hc => absurd hst hc
      misses := by simp only; omega }

/-- The stored times that follow a new delay keep the monitor's laws (R55). -/
theorem RefMon.Laws.delayed {r : RefMon} {view : Bool} (h : r.Laws view) (a : Int) : (r.delayed a).Laws view := by
  cases hst : r.state with
  | absent => rw [RefMon.delayed_absent hst]; exact h
  | qualifying => rw [RefMon.delayed_qualifying hst]; exact { h with prev := fun hc => absurd hst hc }
  | present =>
    rw [RefMon.delayed_present hst]
    exact { h with expects := by simpa using h.expects, present := fun hc => by simpa using h.present hc }

/-- The configuration stored keeps the monitor's laws (R54). -/
theorem RefMon.Laws.configured {r : RefMon} {view : Bool} (h : r.Laws view) {filter expected : Nat} {delay : Int} (falling : Bool) (hf : filter ≤ 3)
    (he : expected ≤ 10) (hd : |delay| ≤ delayRange expected) :
    ({ r with falling := falling, filter := filter, delay := delay, expected := expected } : RefMon).Laws view :=
  { h with config := ⟨hf, he, hd⟩ }

/-- A clamped delay lies in its range (R42). -/
theorem clamped_delay (expected : Nat) (delay : Int) :
    |clampInt (-delayRange expected) (delayRange expected) delay| ≤ delayRange expected := by
  have := delayRange_nonneg expected
  rw [clampInt_eq (by omega), abs_le]
  omega

/-- The configuring of the reference keeps every law (R54, R55). -/
theorem State.Laws.refConfigured (h : s.Laws) {r : RefMon} (hr : r.Laws s.tb.refPresent) (hst : s.ref.state = r.state) (restarts : Bool) :
    (if restarts then
        if s.ref.state = .present then (s.setRef { r.restart none with expectedPt := none, misses := 0 }).setTb s.tb.refLost
        else s.setRef { r.restart none with expectedPt := none, misses := 0 }
      else s.setRef r).Laws := by
  split_ifs with hrestart hp
  · refine h.viewed h.tb_laws.refLost s.tb.refLost_set.1 ?_
    rw [s.tb.refLost_set.2]
    exact RefMon.restart_laws hr none
  · refine h.referenced ?_
    rw [(hr.not_present (hst ▸ hp)).1]
    exact RefMon.restart_laws hr none
  · exact h.referenced hr

/-! ### The loop -/

/-- A loop quotient's bound, the phase error at most half a period (R68). -/
theorem loopQuot_le {e : Int} {period : Nat} (hp : 0 < period) (he : 2 * |e| ≤ period) : |loopQuot e 16 period| ≤ 31250000 := by
  have hden : 0 < 16 * period := by omega
  have hnum : (e * 1000000000).natAbs ≤ 31250000 * (16 * period) := by
    rw [Int.abs_eq_natAbs] at he
    omega
  have hquot : (e * 1000000000).natAbs / (16 * period) ≤ 31250000 := (Nat.div_le_iff_le_mul_add_pred hden).mpr (by omega)
  rw [Int.abs_eq_natAbs, loopQuot, Int.natAbs_tdiv, Int.natAbs_natCast]
  exact_mod_cast hquot

/-- The loop's update keeps the Timebase's laws (R68). -/
theorem Timebase.Laws.looped (h : t.Laws cal) (hst : t.state = .locking ∨ t.state = .locked) {e : Int} {period : Nat} (hp : 0 < period)
    (he : 2 * |e| ≤ period) : (t.loop e period).Laws cal where
  trim := by
    refine ⟨clampTrim_le _, ?_, clampTrim_le _, fun hc => ?_, fun hc => ?_⟩
    · rw [Timebase.loop, abs_neg]; exact loopQuot_le hp he
    · rcases hst with hst | hst <;> exact absurd (hst.symm.trans hc) (by decide)
    · rcases hst with hst | hst <;> exact absurd (hst.symm.trans hc) (by decide)
  counts := h.counts
  ranges := h.ranges
  disc := h.disc

/-- The counting of an edge in LOCKING keeps the Timebase's laws (R69). -/
theorem Timebase.Laws.countedIn (h : t.Laws cal) (hst : t.state = .locking) (hentry : t.entry = false) (e : Int) : (t.countIn e).1.Laws cal := by
  obtain ⟨hi, hp, htrim, -, -⟩ := h.trim
  have hcounts := h.counts
  unfold Timebase.countIn
  split_ifs with hin hlock
  · exact ⟨⟨hi, hp, htrim, fun hc => (by simp at hc), fun hc => (by simp at hc)⟩,
      by simpa [Timebase.countsOk, hentry] using hcounts.2.2.2.2 (by rw [hst]; decide), h.ranges, by simpa [Timebase.stateOk, hst] using h.disc⟩
  · refine ⟨h.trim, ?_, h.ranges, h.disc⟩
    simp only [Timebase.countsOk, hst, ne_eq, not_true_eq_false, false_imp_iff, true_and] at hcounts ⊢
    exact ⟨by omega, hcounts.2⟩
  · refine ⟨h.trim, ?_, h.ranges, h.disc⟩
    simp only [Timebase.countsOk, hst, ne_eq, not_true_eq_false, false_imp_iff, true_and] at hcounts ⊢
    exact ⟨by omega, hcounts.2⟩

/-- The counting of an edge in LOCKED keeps the Timebase's laws (R70). -/
theorem Timebase.Laws.countedOut (h : t.Laws cal) (hst : t.state = .locked) (e : Int) : (t.countOut e).1.Laws cal := by
  obtain ⟨hi, hp, -⟩ := h.trim
  have hcounts := h.counts
  unfold Timebase.countOut
  split_ifs with hout hfour
  · exact Timebase.toLocking_laws h.ranges hi hp (h.running (Or.inr hst))
  · refine ⟨h.trim, ?_, h.ranges, h.disc⟩
    simp only [Timebase.countsOk, hst, ne_eq, not_true_eq_false, false_imp_iff] at hcounts ⊢
    exact ⟨hcounts.1, by omega, hcounts.2.2⟩
  · refine ⟨h.trim, ?_, h.ranges, h.disc⟩
    simp only [Timebase.countsOk, hst, ne_eq, not_true_eq_false, false_imp_iff] at hcounts ⊢
    exact ⟨hcounts.1, by omega, hcounts.2.2⟩

/-! ### Counting -/

/-- A function on the records that are there, read at any number. -/
theorem Bank.get_mapSome {α : Type} {n : Nat} (b : Bank (Option α) n) (f : α → α) (i : Nat) :
    (b.map (Option.map f)).get i none = (b.get i none).map f := by
  rcases Nat.lt_or_ge i n with hi | hi
  · exact Bank.get_map b _ hi none
  · rw [Bank.get_out _ hi, Bank.get_out _ hi]; rfl

/-- What counting leaves of the state: PT, the tick fraction and the elapsed count, and the durations. -/
theorem countTicks_eq (n : Nat) (s : State) :
    ∃ pt draws, pt < ptLimit ∧ countTicks n s = { s with
      tb := { s.tb with pt := pt, elapsed := if s.tb.state = .holdover then s.tb.elapsed + n else s.tb.elapsed }
      draws := draws
      fps := s.fps.map (FramePulse.counted n)
      marks := s.marks.map (MarkInput.counted n)
      devices := s.devices.map (Option.map (Device.counted n))
      cues := s.cues.map (Option.map (Cue.counted n)) } := by
  have hput : ∃ pt draws, pt < ptLimit ∧ s.putPt (s.tb.pt + n) = { s with tb := { s.tb with pt := pt }, draws := draws } := by
    unfold State.putPt
    split_ifs with hpt
    · exact ⟨(s.tb.pt + n : Int).toNat, s.draws, by omega, rfl⟩
    · exact ⟨(Config.freePt s.draws).toNat, s.draws + 1, (Config.freePt s.draws).isLt, rfl⟩
  obtain ⟨pt, draws, hpt, heq⟩ := hput
  refine ⟨pt, draws, hpt, ?_⟩
  unfold countTicks
  rw [heq]

/-- A counted device keeps its laws. -/
theorem Device.counted_ok {d : Device} (h : d.ok) (n : Nat) : (d.counted n).ok := by
  obtain ⟨h1, h2, h3, h4, h5, h6, h7, h8, h9, h10, h11, h12, h13, h14, h15, h16, h17, h18, h19, h20, h21, h22, h23, h24, h25⟩ := h
  refine ⟨h1, h2, h3, h4, h5, h6, h7, h8, h9, h10, h11, h12, h13, h14, h15, h16, h17, h18, h19, h20, h21, ?_, h23, h24, fun m hm => ?_⟩
  · simpa [Device.counted] using h22
  · obtain ⟨k, hk, rfl⟩ := Option.mem_map.mp hm
    exact (Nat.sub_le _ _).trans (h25 k hk)

/-- A counted cue keeps its laws. -/
theorem Cue.counted_ok {c : Cue} (h : c.ok) (n : Nat) : (c.counted n).ok := by
  obtain ⟨h1, h2, h3, h4, h5, h6, h7⟩ := h
  exact ⟨h1, h2, h3, h4, h5, fun hst => ⟨(h6 hst).1, by simp [Cue.counted, (h6 hst).2]⟩, h7⟩

/-- A counted mark input keeps its laws. -/
theorem MarkInput.counted_ok {m : MarkInput} (h : m.ok) (n : Nat) : (m.counted n).ok := by
  obtain ⟨h1, h2, h3, h4, h5, h6, h7, h8, h9, h10, h11⟩ := h
  exact ⟨h1, h2, h3, h4, h5, h6, h7, h8, fun hst => by simp [MarkInput.counted, h9 hst], (Nat.sub_le _ _).trans h10, h11⟩

/-- A counted frame-pulse output keeps its laws. -/
theorem FramePulse.counted_ok {f : FramePulse} (h : f.ok) (n : Nat) : (f.counted n).ok := by
  obtain ⟨h1, h2, h3, h4, h5⟩ := h
  exact ⟨h1, h2, h3, fun hst => by simp [FramePulse.counted, h4 hst], (Nat.sub_le _ _).trans h5⟩

/-- Counting keeps every law (R58, R59). -/
theorem State.Laws.ticked (h : s.Laws) {n pt draws elapsed : Nat} (hpt : pt < ptLimit) (hel : s.tb.state ≠ .holdover → elapsed = 0) :
    ({ s with
      tb := { s.tb with pt := pt, elapsed := elapsed }
      draws := draws
      fps := s.fps.map (FramePulse.counted n)
      marks := s.marks.map (MarkInput.counted n)
      devices := s.devices.map (Option.map (Device.counted n))
      cues := s.cues.map (Option.map (Cue.counted n)) } : State).Laws := by
  have hdevice : ∀ d ∈ (s.devices.map (Option.map (Device.counted n))).list, ∃ e ∈ s.devices.list, d = e.map (Device.counted n) :=
    fun d hd => by obtain ⟨e, he, rfl⟩ := Bank.mem_map.mp hd; exact ⟨e, he, rfl⟩
  have hcue : ∀ c ∈ (s.cues.map (Option.map (Cue.counted n))).list, ∃ e ∈ s.cues.list, c = e.map (Cue.counted n) :=
    fun d hd => by obtain ⟨e, he, rfl⟩ := Bank.mem_map.mp hd; exact ⟨e, he, rfl⟩
  have hcounts := h.counts
  obtain ⟨-, hfrac, hranges⟩ := h.ranges
  exact { h with
    counts := ⟨hcounts.1, hcounts.2.1, hcounts.2.2.1, hcounts.2.2.2.1, hel⟩
    ranges := ⟨hpt, hfrac, hranges⟩
    names := by
      refine ⟨fun d hd x hx => ?_, fun c hc x hx i hi => ?_, fun f hf i hi => ?_⟩
      · obtain ⟨e, he, rfl⟩ := hdevice d hd
        obtain ⟨y, hy, rfl⟩ := Option.mem_map.mp hx
        exact h.names.1 e he y hy
      · obtain ⟨e, he, rfl⟩ := hcue c hc
        obtain ⟨y, hy, rfl⟩ := Option.mem_map.mp hx
        exact h.names.2.1 e he y hy i hi
      · obtain ⟨e, he, rfl⟩ := Bank.mem_map.mp hf
        exact h.names.2.2 e he i hi
    fps := fun f hf => by
      obtain ⟨e, he, rfl⟩ := Bank.mem_map.mp hf
      exact ⟨FramePulse.counted_ok (h.fps e he).1 n, (h.fps e he).2⟩
    marks := fun m hm => by
      obtain ⟨e, he, rfl⟩ := Bank.mem_map.mp hm
      exact MarkInput.counted_ok (h.marks e he) n
    devices := by
      refine ⟨fun d hd x hx => ?_, ?_⟩
      · obtain ⟨e, he, rfl⟩ := hdevice d hd
        obtain ⟨y, hy, rfl⟩ := Option.mem_map.mp hx
        exact Device.counted_ok (h.devices.1 e he y hy) n
      · have hinput : ∀ d : Option Device, (d.map (Device.counted n)).bind Device.input = d.bind Device.input := fun d => by cases d <;> rfl
        simpa [Bank.map, List.filterMap_map, Function.comp_def, hinput] using h.devices.2
    dues := by
      have hdue : ∀ c : Option Cue, (c.map (Cue.counted n)).bind Cue.due = c.bind Cue.due := fun c => by cases c <;> rfl
      have hlisted : ∀ c : Option Cue, (c.map (Cue.counted n)).any (fun c => c.listed) = c.any (fun c => c.listed) := fun c => by cases c <;> rfl
      obtain ⟨h1, h2, h3, h4⟩ := h.dues
      refine ⟨h1, ?_, ?_, ?_⟩
      · have hdueOf : ∀ i, (((s.cues.map (Option.map (Cue.counted n))).get i none).bind Cue.due).getD 0 = s.dueOf i :=
          fun i => by rw [Bank.get_mapSome, hdue]; rfl
        exact (List.map_congr_left fun i _ => hdueOf i) ▸ h2
      · simpa [State.cue, Bank.get_mapSome, hlisted] using h3
      · intro i hi c hc
        rw [State.cue, Bank.get_mapSome] at hc
        obtain ⟨y, hy, rfl⟩ := Option.mem_map.mp hc
        exact h4 i hi y hy
    lines := fun j hj i hi => by
      have hstate : ∀ c : Option Cue, (c.map (Cue.counted n)).any (fun c => decide (c.state = .pulsing ∧ c.line = some j))
          = c.any (fun c => decide (c.state = .pulsing ∧ c.line = some j)) := fun c => by cases c <;> rfl
      rw [State.cue, Bank.get_mapSome, hstate]
      exact h.lines j hj i hi
    cues := fun c hc x hx => by
      obtain ⟨e, he, rfl⟩ := hcue c hc
      obtain ⟨y, hy, rfl⟩ := Option.mem_map.mp hx
      exact Cue.counted_ok (h.cues e he y hy) n
    owners := by
      refine ⟨fun k hk d hd i hi => ?_, fun i hi c hc k hk => ?_⟩
      · rw [State.device, Bank.get_mapSome] at hd
        obtain ⟨y, hy, rfl⟩ := Option.mem_map.mp hd
        have hown : ∀ c : Option Cue, (c.map (Cue.counted n)).any (fun c => decide (c.owner = some k)) = c.any (fun c => decide (c.owner = some k)) :=
          fun c => by cases c <;> rfl
        rw [State.cue, Bank.get_mapSome, hown]
        exact h.owners.1 k hk y hy i hi
      · rw [State.cue, Bank.get_mapSome] at hc
        obtain ⟨y, hy, rfl⟩ := Option.mem_map.mp hc
        have hown : ∀ d : Option Device, (d.map (Device.counted n)).any (fun d => decide (d.cue = some i)) = d.any (fun d => decide (d.cue = some i)) :=
          fun d => by cases d <;> rfl
        rw [State.device, Bank.get_mapSome, hown]
        exact h.owners.2 i hi y hy k hk
    unset := fun hu => by
      obtain ⟨h1, h2, h3, h4, h5⟩ := h.unset hu
      refine ⟨h1, fun m hm => ?_, fun d hd x hx => ?_, h4, fun c hc x hx => ?_⟩
      · obtain ⟨e, he, rfl⟩ := Bank.mem_map.mp hm
        exact h2 e he
      · obtain ⟨e, he, rfl⟩ := hdevice d hd
        obtain ⟨y, hy, rfl⟩ := Option.mem_map.mp hx
        exact h3 e he y hy
      · obtain ⟨e, he, rfl⟩ := hcue c hc
        obtain ⟨y, hy, rfl⟩ := Option.mem_map.mp hx
        exact h5 e he y hy }

/-- A cycle of the source that drives PT keeps every law (R58). -/
theorem State.Laws.countedCycle (h : s.Laws) (which : Source) : (countCycle which s).Laws := by
  unfold countCycle
  dsimp only
  generalize hn : (s.tb.frac + cycleAmount which s.tb.trim) / fracUnit = n
  have hfrac : ({ s with tb := { s.tb with frac := (s.tb.frac + cycleAmount which s.tb.trim) % fracUnit } } : State).Laws :=
    { h with ranges := ⟨h.ranges.1, Nat.mod_lt _ (by decide), h.ranges.2.2⟩ }
  obtain ⟨pt, draws, hpt, heq⟩ := countTicks_eq n { s with tb := { s.tb with frac := (s.tb.frac + cycleAmount which s.tb.trim) % fracUnit } }
  rw [heq]
  refine hfrac.ticked hpt fun hst => ?_
  rw [if_neg hst]
  exact h.counts.2.2.2.2 hst

/-- A cycle of a source counts PT only where the source drives it. -/
theorem State.Laws.driven (h : s.Laws) (which : Source) : (countIfDriving which s).Laws := by
  unfold countIfDriving
  split_ifs
  · exact h.countedCycle which
  · exact h

end

end Sys2Proof.Machine
end

section
/-! What the frame-pulse outputs, the mark inputs and the lane records keep of the laws. -/

namespace Sys2Proof.Machine

section
variable {s : State}

/-! ### Frame-pulse outputs -/

/-- A frame-pulse output of a lawful state keeps its laws, a number that the part does not have reading as after reset. -/
theorem State.Laws.fp_ok (h : s.Laws) (i : Nat) : (s.fp i).ok ∧ ((s.fp i).lane = none → (s.fp i).level = (s.fp i).idle) := by
  rcases Nat.lt_or_ge i 4 with hi | hi
  · exact h.fps _ (Bank.get_mem _ hi _)
  · rw [State.fp, Bank.get_out _ hi]; decide

/-- An output written with its laws kept, on a lane that is not FREE, keeps every law. -/
theorem State.Laws.fpWritten (h : s.Laws) (i : Nat) {f : FramePulse} (hf : f.ok ∧ (f.lane = none → f.level = f.idle))
    (hlane : ∀ k ∈ f.lane, (s.lane k).state ≠ .free) : (s.setFp i f).Laws :=
  { h with
    fps := fun g hg => by
      rcases Bank.mem_put hg with rfl | hg
      · exact hf
      · exact h.fps g hg
    names := ⟨h.names.1, h.names.2.1, fun g hg => by
      rcases Bank.mem_put hg with rfl | hg
      · exact hlane
      · exact h.names.2.2 g hg⟩ }

/-- The lane of an output is not FREE. -/
theorem State.Laws.fp_lane (h : s.Laws) (i : Nat) : ∀ k ∈ (s.fp i).lane, (s.lane k).state ≠ .free := by
  rcases Nat.lt_or_ge i 4 with hi | hi
  · exact h.names.2.2 _ (Bank.get_mem _ hi _)
  · rw [State.fp, Bank.get_out _ hi]; simp [FramePulse.reset]

/-- The end of a frame pulse keeps every law (R102). -/
theorem State.Laws.framePulseEnded (h : s.Laws) (i : Nat) (hrem : (s.fp i).remaining = 0) :
    (s.setFp i { s.fp i with level := (s.fp i).idle }).Laws := by
  obtain ⟨⟨hw, hc, hc', -, -⟩, -⟩ := h.fp_ok i
  exact h.fpWritten i ⟨⟨hw, hc, hc', fun _ => hrem, by simp [hrem]⟩, fun _ => rfl⟩ (h.fp_lane i)

/-- A lane that is not FREE keeps its laws. -/
theorem State.Laws.lane_ok (h : s.Laws) {i : Nat} (hst : (s.lane i).state ≠ .free) : (s.lane i).ok := by
  rcases Nat.lt_or_ge i 16 with hi | hi
  · exact (h.lanes _ (Bank.get_mem _ hi _)).2 hst
  · rw [State.lane, Bank.get_out _ hi] at hst; exact absurd rfl hst

/-- The largest width of an output allows the least (R101). -/
theorem State.Laws.widthMax_ge (h : s.Laws) {lane : Nat} (hl : lane ≠ 255 → (s.lane lane).state ≠ .free) : 54 ≤ s.widthMax lane := by
  unfold State.widthMax
  split_ifs with hnone
  · decide
  · have := (h.lane_ok (hl hnone)).1.period_ge
    omega

/-- The assigning of an output keeps every law (R101). -/
theorem State.Laws.pulseAssigned (h : s.Laws) (output : Nat) {lane : Nat} (hl : lane ≠ 255 → (s.lane lane).state ≠ .free) (width : Int)
    (polarity cadence : Nat) :
    (s.setFp output
      { lane := if lane = 255 then none else some lane, width := clampNat 54 (s.widthMax lane) width, activeLow := polarity == 1,
        cadence := clampNat 1 120 cadence, level := polarity == 1, remaining := 0 }).Laws := by
  have hmax := h.widthMax_ge hl
  refine h.fpWritten output ⟨⟨?_, ?_, ?_, fun _ => rfl, Nat.zero_le _⟩, fun _ => rfl⟩ fun k hk => ?_
  · dsimp only; rw [clampNat, clampInt_eq (by omega)]; omega
  · dsimp only; rw [clampNat_natCast (by omega)]; omega
  · dsimp only; rw [clampNat_natCast (by omega)]; omega
  · dsimp only at hk
    split_ifs at hk with hnone
    · cases hk
    · cases hk; exact hl hnone

/-- An output keeps its laws at a boundary (R102). -/
theorem FramePulse.atBoundary_ok {f : FramePulse} (h : f.ok) (st : LaneState) (count : Nat) : (f.atBoundary st count).ok := by
  obtain ⟨hw, hc, hc', hp, hr⟩ := h
  unfold FramePulse.atBoundary
  split_ifs
  · exact ⟨hw, hc, hc', fun hn => by simp [FramePulse.pulsing, FramePulse.active] at hn, le_refl _⟩
  · exact ⟨hw, hc, hc', hp, hr⟩

/-- The lane of an output at a boundary. -/
theorem FramePulse.atBoundary_lane (f : FramePulse) (st : LaneState) (count : Nat) : (f.atBoundary st count).lane = f.lane := by
  unfold FramePulse.atBoundary; split_ifs <;> rfl

/-- The pulses of a lane's outputs keep every law (R102). -/
theorem State.Laws.pulsed (h : s.Laws) (i : Nat) : (framePulses i s).Laws := by
  have hlane : ∀ (f : FramePulse) (st : LaneState) (count : Nat), (if f.lane = some i then f.atBoundary st count else f).lane = f.lane := by
    intro f st count
    split_ifs
    · exact f.atBoundary_lane st count
    · rfl
  exact { h with
    fps := fun g hg => by
      obtain ⟨f, hf, rfl⟩ := Bank.mem_map.mp hg
      split_ifs with hi
      · exact ⟨FramePulse.atBoundary_ok (h.fps f hf).1 _ _, fun hn => by rw [FramePulse.atBoundary_lane, hi] at hn; cases hn⟩
      · exact h.fps f hf
    names := ⟨h.names.1, h.names.2.1, fun g hg => by
      obtain ⟨f, hf, rfl⟩ := Bank.mem_map.mp hg
      rw [hlane]
      exact h.names.2.2 f hf⟩ }

/-! ### Mark inputs -/

/-- A mark input of a lawful state keeps its laws, a number that the part does not have reading as after reset. -/
theorem State.Laws.mark_ok (h : s.Laws) (i : Nat) : (s.mark i).ok := by
  rcases Nat.lt_or_ge i 8 with hi | hi
  · exact h.marks _ (Bank.get_mem _ hi _)
  · rw [State.mark, Bank.get_out _ hi]; decide

/-- While the time is UNSET a mark input holds no mark (R60). -/
theorem State.Laws.mark_unset (h : s.Laws) (i : Nat) (hu : s.tb.set = false) : (s.mark i).fifo = [] := by
  rcases Nat.lt_or_ge i 8 with hi | hi
  · exact (h.unset hu).2.1 _ (Bank.get_mem _ hi _)
  · rw [State.mark, Bank.get_out _ hi]; rfl

/-- An input written with its laws kept, and no mark while the time is UNSET, keeps every law. -/
theorem State.Laws.markWritten (h : s.Laws) (i : Nat) {m : MarkInput} (hm : m.ok) (hu : s.tb.set = false → m.fifo = []) : (s.setMark i m).Laws :=
  { h with
    marks := fun x hx => by
      rcases Bank.mem_put hx with rfl | hx
      · exact hm
      · exact h.marks x hx
    unset := fun hset => by
      obtain ⟨h1, h2, h3⟩ := h.unset hset
      refine ⟨h1, fun x hx => ?_, h3⟩
      rcases Bank.mem_put hx with rfl | hx
      · exact hu hset
      · exact h2 x hx }

/-- Fewer of its marks keep an input's laws. -/
theorem MarkInput.ok_of_sublist {m : MarkInput} (h : m.ok) {fifo : List Mark} (hsub : fifo.Sublist m.fifo) : ({ m with fifo := fifo } : MarkInput).ok := by
  obtain ⟨h1, h2, h3, h4, h5, h6, h7, h8, h9, h10, h11, hlen, hnodup, hnum⟩ := h
  exact ⟨h1, h2, h3, h4, h5, h6, h7, h8, h9, h10, h11, hsub.length_le.trans hlen, hnodup.sublist (hsub.map _), fun k hk => hnum k (hsub.subset hk)⟩

/-- The marks that leave an input's FIFO keep every law. -/
theorem State.Laws.marksLeft (h : s.Laws) (i : Nat) {fifo : List Mark} (hsub : fifo.Sublist (s.mark i).fifo) :
    (s.setMark i { s.mark i with fifo := fifo }).Laws :=
  h.markWritten i (MarkInput.ok_of_sublist (h.mark_ok i) hsub) fun hu => List.sublist_nil.mp (h.mark_unset i hu ▸ hsub)

/-- The end of a holdoff keeps every law (R105). -/
theorem State.Laws.holdoffEnded (h : s.Laws) (i : Nat) (hst : (s.mark i).state = .holdoff) (hrem : (s.mark i).remaining = 0) :
    (s.setMark i { s.mark i with state := .armed }).Laws := by
  obtain ⟨h1, h2, h3, h4, h5, h6, h7, h8, -, h10, h11⟩ := h.mark_ok i
  refine h.markWritten i ⟨?_, h2, h3, h4, h5, h6, h7, h8, fun _ => hrem, h10, h11⟩ (h.mark_unset i)
  exact ⟨fun he => absurd (hst.symm.trans (h1.mp he)) (by decide), fun hc => MarkState.noConfusion hc⟩

/-- An accepted edge keeps an input's laws (R105, R106). -/
theorem MarkInput.accept_ok {m : MarkInput} (h : m.ok) (hst : m.state = .armed) : m.accept.ok := by
  obtain ⟨h1, h2, h3, h4, h5, h6, h7, h8, h9, h10, h11⟩ := h
  refine ⟨?_, h2, h3, h4, h5, h6, h7, ?_, ?_, le_refl _, h11⟩
  · have henable : m.enable = true := by rw [← Bool.not_eq_false, h1, hst]; decide
    simp only [MarkInput.accept, henable, Bool.true_eq_false, false_iff]
    split_ifs
    · decide
    · rw [hst]; decide
  · simp only [MarkInput.accept]; split_ifs <;> omega
  · simp only [MarkInput.accept]
    split_ifs with hpos
    · exact fun hc => absurd rfl hc
    · exact fun _ => by omega

/-- The FIFO that has made room holds at most three marks, none of the number to come (R107). -/
theorem makeRoom_spec (number : Nat) {fifo : List Mark} (hlen : fifo.length ≤ 4) :
    (makeRoom number fifo).Sublist fifo ∧ (makeRoom number fifo).length ≤ 3 ∧ ∀ k ∈ makeRoom number fifo, k.number ≠ number := by
  unfold makeRoom
  split_ifs with hany hfull
  · refine ⟨List.filter_sublist, ?_, fun k hk => by simpa using (List.mem_filter.mp hk).2⟩
    obtain ⟨m, hm, hnum⟩ := List.any_eq_true.mp hany
    have hlt : (fifo.filter fun m => m.number != number).length < fifo.length :=
      List.length_filter_lt_length_iff_exists.mpr ⟨m, hm, by simpa using hnum⟩
    omega
  · refine ⟨List.drop_sublist _ _, by rw [List.length_drop]; omega, fun k hk hc => hany ?_⟩
    exact List.any_eq_true.mpr ⟨k, List.mem_of_mem_drop hk, by simpa using hc⟩
  · exact ⟨List.Sublist.refl _, by omega, fun k hk hc => hany (List.any_eq_true.mpr ⟨k, hk, by simpa using hc⟩)⟩

/-- A capture keeps an input's laws (R107). -/
theorem MarkInput.capture_ok {m : MarkInput} (h : m.ok) (pt : Int) : (m.capture pt).ok := by
  obtain ⟨h1, h2, h3, h4, h5, h6, h7, h8, h9, h10, hnext, hlen, hnodup, hnum⟩ := h
  obtain ⟨hsub, hroom, hnone⟩ := makeRoom_spec m.nextNumber hlen
  refine ⟨h1, h2, h3, h4, h5, h6, h7, h8, h9, h10, Nat.mod_lt _ (by decide), ?_, ?_, fun k hk => ?_⟩
  · simp only [MarkInput.capture, List.length_append, List.length_singleton]; omega
  · simp only [MarkInput.capture, List.map_append, List.map_singleton]
    refine List.Nodup.append (hnodup.sublist (hsub.map _)) (List.nodup_singleton _) ?_
    rw [List.disjoint_singleton]
    exact fun hin => by obtain ⟨k, hk, hc⟩ := List.mem_map.mp hin; exact hnone k hk hc
  · rcases List.mem_append.mp hk with hk | hk
    · exact hnum k (hsub.subset hk)
    · rw [List.mem_singleton.mp hk]; exact hnext

/-- A configured input keeps its laws (R115). -/
theorem MarkInput.configured_ok {m : MarkInput} (h : m.ok) {enable filter : Nat} (edge holdoff decimation window : Nat) (he : enable ≤ 1) (hf : filter ≤ 3) :
    (m.configured enable edge filter holdoff decimation window).ok := by
  obtain ⟨-, -, -, -, -, -, -, -, -, -, h11⟩ := h
  have hhold : clampNat 0 500 holdoff = min 500 holdoff := by rw [clampNat_natCast (by omega)]; omega
  have hdec : clampNat 1 4096 decimation = max 1 (min 4096 decimation) := clampNat_natCast (by omega) _
  have hwin : clampNat 100 10000 window = max 100 (min 10000 window) := clampNat_natCast (by omega) _
  refine ⟨?_, hf, ?_, ?_, ?_, ?_, ?_, ?_, fun _ => rfl, Nat.zero_le _, h11⟩ <;>
    simp only [MarkInput.configured, hhold, hdec, hwin, ticksPerMs]
  · interval_cases enable <;> decide
  all_goals omega

/-- A MARK_CONFIG keeps every law (R115). -/
theorem State.Laws.markConfigured (h : s.Laws) (i : Nat) {m : MarkInput} (hm : m.ok) (hfifo : m.fifo = (s.mark i).fifo) (p : Mark → Bool) :
    (s.setMark i { m with fifo := m.fifo.filter p }).Laws :=
  h.markWritten i (MarkInput.ok_of_sublist hm List.filter_sublist) fun hu => by simp [hfifo, h.mark_unset i hu]

/-- The claim of a mark keeps every law (R110). -/
theorem State.Laws.claimed (h : s.Laws) (input : Option Nat) (k : Option Mark) : (claimMark input k s).Laws := by
  unfold claimMark
  split
  · exact h.marksLeft _ List.erase_sublist
  · exact h

/-- A step of the marks keeps every law (R112). -/
theorem State.Laws.marksStepped (h : s.Laws) (a : Int) : (marksStep a s).Laws :=
  { h with
    marks := fun x hx => by
      obtain ⟨m, hm, rfl⟩ := Bank.mem_map.mp hx
      obtain ⟨h1, h2, h3, h4, h5, h6, h7, h8, h9, h10, h11, hlen, hnodup, hnum⟩ := h.marks m hm
      refine ⟨h1, h2, h3, h4, h5, h6, h7, h8, h9, h10, h11, by simpa using hlen, by simpa [Function.comp_def] using hnodup, fun k hk => ?_⟩
      obtain ⟨j, hj, rfl⟩ := List.mem_map.mp hk
      exact hnum j hj
    unset := fun hu => by
      obtain ⟨h1, h2, h3⟩ := h.unset hu
      refine ⟨h1, fun x hx => ?_, h3⟩
      obtain ⟨m, hm, rfl⟩ := Bank.mem_map.mp hx
      simp [h2 m hm] }

/-- A time discontinuity of the marks keeps every law (R113). -/
theorem State.Laws.marksEmptied (h : s.Laws) : (marksDiscontinuity s).Laws :=
  { h with
    marks := fun x hx => by
      obtain ⟨m, hm, rfl⟩ := Bank.mem_map.mp hx
      exact MarkInput.ok_of_sublist (h.marks m hm) (List.nil_sublist _)
    unset := fun hu => by
      obtain ⟨h1, -, h3⟩ := h.unset hu
      refine ⟨h1, fun x hx => ?_, h3⟩
      obtain ⟨m, hm, rfl⟩ := Bank.mem_map.mp hx
      rfl }

end

end Sys2Proof.Machine
end

section
/-! The cue slots: what an operation on one slot leaves, as one equation for each (Chapter 8), and what a state keeps of the laws when one slot,
its place in the due list and the output lines are written. -/

namespace Sys2Proof.Machine

/-! ### Records read after a write -/

section
variable {s : State}

theorem State.cue_setCue_same {i : Nat} (hi : i < 64) (c : Option Cue) : (s.setCue i c).cue i = c := Bank.get_put_same _ hi _ _

theorem State.cue_setCue_ne {i j : Nat} (h : j ≠ i) (c : Option Cue) : (s.setCue i c).cue j = s.cue j := Bank.get_put_ne _ h.symm _ _

theorem State.lane_setLane_same {i : Nat} (hi : i < 16) (l : Lane) : (s.setLane i l).lane i = l := Bank.get_put_same _ hi _ _

theorem State.lane_setLane_ne {i j : Nat} (h : j ≠ i) (l : Lane) : (s.setLane i l).lane j = s.lane j := Bank.get_put_ne _ h.symm _ _

theorem State.device_setDevice_same {i : Nat} (hi : i < 32) (d : Option Device) : (s.setDevice i d).device i = d := Bank.get_put_same _ hi _ _

theorem State.device_setDevice_ne {i j : Nat} (h : j ≠ i) (d : Option Device) : (s.setDevice i d).device j = s.device j :=
  Bank.get_put_ne _ h.symm _ _

/-- A cue stands only in a slot that the part has. -/
theorem State.cue_lt {i : Nat} {c : Cue} (h : s.cue i = some c) : i < 64 := by
  by_contra hi
  rw [State.cue, Bank.get_out _ (by omega)] at h
  cases h

/-- A device stands only in a slot that the part has. -/
theorem State.device_lt {i : Nat} {d : Device} (h : s.device i = some d) : i < 32 := by
  by_contra hi
  rw [State.device, Bank.get_out _ (by omega)] at h
  cases h

/-- A lane that is not FREE is one that the part has. -/
theorem State.lane_lt {i : Nat} (h : (s.lane i).state ≠ .free) : i < 16 := by
  by_contra hi
  rw [State.lane, Bank.get_out _ (by omega)] at h
  exact h rfl

end

/-! ### Lanes written -/

section
variable {s : State}

/-- A lane with other masks, rounding or sticky flags keeps what is said of a lane record (R79). -/
theorem Lane.record_of_settings {l : Lane} (h : (l.state = .free → l = l.freed) ∧ (l.state ≠ .free → l.ok)) (r : Rounding) (m k : Conds) :
    let l' := { l with rounding := r, masks := m, sticky := k }
    (l'.state = .free → l' = l'.freed) ∧ (l'.state ≠ .free → l'.ok) := by
  refine ⟨fun hst => ?_, fun hst => h.2 hst⟩
  rw [h.1 hst]; rfl

/-- A lane record written, with every name of it still good, keeps every law. -/
theorem State.LawsApart.laneWritten (h : s.LawsApart) (i : Nat) {l : Lane} (hl : (l.state = .free → l = l.freed) ∧ (l.state ≠ .free → l.ok))
    (hst : (s.lane i).state ≠ .free → l.state ≠ .free) (hu : s.tb.set = false → (l.state = .free ∨ l.state = .waiting) ∧ l.next = none) :
    (s.setLane i l).LawsApart := by
  have hname : ∀ k, (s.lane k).state ≠ .free → ((s.setLane i l).lane k).state ≠ .free := by
    intro k hk
    by_cases hki : k = i
    · subst hki; rw [State.lane_setLane_same (State.lane_lt hk)]; exact hst hk
    · rw [State.lane_setLane_ne hki]; exact hk
  exact { h with
    lanes := fun x hx => by
      rcases Bank.mem_put hx with rfl | hx
      · exact hl
      · exact h.lanes x hx
    names := ⟨fun d hd x hx => hname _ (h.names.1 d hd x hx), fun c hc x hx k hk => hname _ (h.names.2.1 c hc x hx k hk),
      fun f hf k hk => hname _ (h.names.2.2 f hf k hk)⟩
    unset := fun hset => by
      obtain ⟨h1, h2⟩ := h.unset hset
      refine ⟨fun x hx => ?_, h2⟩
      rcases Bank.mem_put hx with rfl | hx
      · exact hu hset
      · exact h1 x hx }

/-- A lane of a lawful state, a number that the part does not have reading as after reset. -/
theorem State.LawsApart.lane_record (h : s.LawsApart) (i : Nat) :
    ((s.lane i).state = .free → s.lane i = (s.lane i).freed) ∧ ((s.lane i).state ≠ .free → (s.lane i).ok) := by
  rcases Nat.lt_or_ge i 16 with hi | hi
  · exact h.lanes _ (Bank.get_mem _ hi _)
  · rw [State.lane, Bank.get_out _ hi]
    exact ⟨fun _ => rfl, fun hst => absurd rfl hst⟩

/-- While the time is UNSET a lane is FREE or WAITING and is not tracked (R60). -/
theorem State.LawsApart.lane_unset (h : s.LawsApart) (i : Nat) (hu : s.tb.set = false) :
    ((s.lane i).state = .free ∨ (s.lane i).state = .waiting) ∧ (s.lane i).next = none := by
  rcases Nat.lt_or_ge i 16 with hi | hi
  · exact (h.unset hu).1 _ (Bank.get_mem _ hi _)
  · rw [State.lane, Bank.get_out _ hi]; exact ⟨Or.inl rfl, rfl⟩

/-- Masks, rounding and sticky flags written keep every law. -/
theorem State.LawsApart.settingsWritten (h : s.LawsApart) (i : Nat) (r : Rounding) (m k : Conds) :
    (s.setLane i { s.lane i with rounding := r, masks := m, sticky := k }).LawsApart :=
  h.laneWritten i (Lane.record_of_settings (h.lane_record i) r m k) id (h.lane_unset i)

/-- Conditions noted on a lane keep every law. -/
theorem State.LawsApart.stuck (h : s.LawsApart) (i : Nat) (m : Conds) : (stick i m s).LawsApart := by
  rw [stick, Machine.raiseIf]
  split_ifs
  · exact (h.settingsWritten i (s.lane i).rounding (s.lane i).masks _).raised _
  · exact h.settingsWritten i (s.lane i).rounding (s.lane i).masks _

end

/-! ### Flags and sticky flags noted -/

/-- `u` is `s` after raisings and conditions noted on lanes. -/
inductive Noted (s : State) : State → Prop
  | refl : Noted s s
  | raise {u : State} (f : Flag) : Noted s u → Noted s (raise f u)
  | stick {u : State} (i : Nat) (m : Conds) : Noted s u → Noted s (stick i m u)

namespace Noted

variable {s u v : State}

theorem raiseIf (h : Noted s u) (b : Bool) (f : Flag) : Noted s (raiseIf b f u) := by
  cases b
  · exact h
  · exact h.raise f

theorem stickOpt (h : Noted s u) (i : Option Nat) (m : Conds) : Noted s (stickOpt i m u) := by
  cases i
  · exact h
  · exact h.stick _ m

theorem trans (h : Noted s u) (k : Noted u v) : Noted s v := by
  induction k with
  | refl => exact h
  | raise f _ ih => exact ih.raise f
  | stick i m _ ih => exact ih.stick i m

/-- Only lanes and flags are noted. -/
theorem frame (h : Noted s u) : u = { s with lanes := u.lanes, attn := u.attn } := by
  induction h with
  | refl => rfl
  | raise f _ ih => rw [ih]; rfl
  | stick i m _ ih =>
    rw [Machine.stick, Machine.raiseIf]
    split_ifs <;> rw [ih] <;> rfl

/-- What is noted on a lane is its sticky flags. -/
theorem lane (h : Noted s u) (j : Nat) : u.lane j = { s.lane j with sticky := (u.lane j).sticky } := by
  induction h with
  | refl => rfl
  | raise f _ ih => exact ih
  | @stick v i m hu ih =>
    have hlane : (Machine.stick i m v).lane j = (v.setLane i { v.lane i with sticky := (v.lane i).sticky.or m }).lane j := by
      rw [Machine.stick, Machine.raiseIf]; split_ifs <;> rfl
    rw [hlane]
    by_cases hj : j = i
    · subst hj
      rcases Nat.lt_or_ge j 16 with hlt | hge
      · rw [State.lane_setLane_same hlt, ih]
      · rw [State.lane, State.setLane_lanes, Bank.put_out _ hge]; exact ih
    · rw [State.lane_setLane_ne hj]; exact ih

/-- What is noted keeps every law. -/
theorem lawsApart (h : Noted s u) (hs : s.LawsApart) : u.LawsApart := by
  induction h with
  | refl => exact hs
  | raise f _ ih => exact ih.raised f
  | stick i m _ ih => exact ih.stuck i m

/-- What is noted leaves the cues, the due list, the lines, the devices, the Timebase and the sources as they were. -/
theorem keeps (h : Noted s u) : u.cues = s.cues ∧ u.dues = s.dues ∧ u.lines = s.lines ∧ u.devices = s.devices ∧ u.tb = s.tb ∧ u.src = s.src := by
  rw [h.frame]; exact ⟨rfl, rfl, rfl, rfl, rfl, rfl⟩

/-- What is noted keeps every law. -/
theorem laws (h : Noted s u) (hs : s.Laws) : u.Laws := by
  obtain ⟨hcues, -, -, hdevices, -⟩ := h.keeps
  refine { h.lawsApart hs.toLawsApart with owners := ?_ }
  rw [State.ownersOk]
  simp only [State.cue, State.device, hcues, hdevices]
  exact hs.owners

end Noted

/-! ### The due list -/

/-- A due placed in a list is the list with one entry more. -/
theorem placeDue_perm (f : Nat → Nat) (slot due : Nat) (l : List Nat) : (placeDue f slot due l).Perm (slot :: l) := by
  induction l with
  | nil => exact List.Perm.refl _
  | cons x l ih =>
    rw [placeDue]
    split_ifs
    · exact (ih.cons x).trans (List.Perm.swap slot x l)
    · exact List.Perm.refl _

/-- A due placed in an ordered list leaves it ordered (R145). -/
theorem placeDue_sorted {f g : Nat → Nat} {slot due : Nat} {l : List Nat} (hg : ∀ x ∈ l, g x = f x) (hslot : g slot = due)
    (hl : (l.map f).Pairwise (· ≤ ·)) : ((placeDue f slot due l).map g).Pairwise (· ≤ ·) := by
  induction l with
  | nil => simp [placeDue]
  | cons x l ih =>
    rw [List.map_cons, List.pairwise_cons] at hl
    have hgl : ∀ y ∈ l, g y = f y := fun y hy => hg y (List.mem_cons_of_mem x hy)
    have hgx : g x = f x := hg x List.mem_cons_self
    have hle : ∀ y ∈ l, f x ≤ f y := fun y hy => hl.1 (f y) (List.mem_map_of_mem hy)
    rw [placeDue]
    split_ifs with hx
    · rw [List.map_cons, List.pairwise_cons]
      refine ⟨fun v hv => ?_, ih hgl hl.2⟩
      obtain ⟨y, hy, rfl⟩ := List.mem_map.mp hv
      rcases List.mem_cons.mp ((placeDue_perm f slot due l).mem_iff.mp hy) with rfl | hy
      · omega
      · rw [hgx, hgl y hy]; exact hle y hy
    · rw [List.map_cons, List.pairwise_cons, List.map_cons, List.pairwise_cons]
      refine ⟨fun v hv => ?_, fun v hv => ?_, ?_⟩
      · rcases List.mem_cons.mp hv with rfl | hv
        · omega
        · obtain ⟨y, hy, rfl⟩ := List.mem_map.mp hv
          have := hle y hy
          rw [hgl y hy]; omega
      · obtain ⟨y, hy, rfl⟩ := List.mem_map.mp hv
        rw [hgx, hgl y hy]; exact hle y hy
      · rw [List.map_congr_left hgl]; exact hl.2

/-! ### A slot, its place in the due list and the output lines written -/

/-- The state with its cues, due list and output lines replaced. -/
def State.scheduled (s : State) (cues : Bank (Option Cue) 64) (dues : List Nat) (lines : Bank Line 8) : State :=
  { s with cues := cues, dues := dues, lines := lines }

/-- The slot's cue and its place in the due list agree: out of the list without a due, or in it behind every due equal to or earlier than its own
(R145). -/
def State.Placed (s : State) (slot : Nat) (c : Option Cue) (dues : List Nat) : Prop :=
  (dues = s.dues.filter (· ≠ slot) ∧ ∀ x ∈ c, x.listed = false ∧ x.due = none)
    ∨ ∃ x due, c = some x ∧ x.listed = true ∧ x.due = some due ∧ dues = placeDue s.dueOf slot due (s.dues.filter (· ≠ slot))

/-- The lines are held as before, or by the slot's cue, PULSING on the line (R148). -/
def State.Held (s : State) (slot : Nat) (c : Option Cue) (lines : Bank Line 8) : Prop :=
  ∀ j < 8, ∀ i ∈ (lines.get j .reset).holder,
    (i ≠ slot ∧ (s.line j).holder = some i) ∨ i = slot ∧ ∃ x ∈ c, x.state = .pulsing ∧ x.line = some j

section
variable {s : State} {slot : Nat} {c : Option Cue} {dues : List Nat} {lines : Bank Line 8}

/-- The entries of the due list other than the slot's are those that were there. -/
theorem State.Placed.mem_iff (h : s.Placed slot c dues) {j : Nat} (hj : j ≠ slot) : j ∈ dues ↔ j ∈ s.dues := by
  rcases h with ⟨rfl, -⟩ | ⟨x, due, -, -, -, rfl⟩
  · simp [hj]
  · rw [(placeDue_perm _ _ _ _).mem_iff]; simp [hj]

/-- The slot is in the due list exactly where its cue has a due. -/
theorem State.Placed.slot_mem_iff (h : s.Placed slot c dues) : slot ∈ dues ↔ ∃ x ∈ c, x.due.isSome = true := by
  rcases h with ⟨rfl, hno⟩ | ⟨x, due, rfl, -, hdue, rfl⟩
  · simp only [List.mem_filter, ne_eq, not_true_eq_false, decide_false, Bool.false_eq_true, and_false, false_iff]
    rintro ⟨x, hx, hdue⟩
    rw [(hno x hx).2] at hdue; cases hdue
  · exact ⟨fun _ => ⟨x, rfl, by rw [hdue]; rfl⟩, fun _ => (placeDue_perm _ _ _ _).mem_iff.mpr List.mem_cons_self⟩

/-- A listed cue has a due. -/
theorem State.Placed.due_of_listed (h : s.Placed slot c dues) {x : Cue} (hx : x ∈ c) : x.listed = true ↔ x.due.isSome = true := by
  rcases h with ⟨rfl, hno⟩ | ⟨y, due, rfl, hl, hdue, rfl⟩
  · rw [(hno x hx).1, (hno x hx).2]; simp
  · cases hx; rw [hl, hdue]; simp

/-- The due list after a slot has been written in its place (R145). -/
theorem State.duesOk_scheduled (h : s.duesOk) (hslot : slot < 64) (hd : s.Placed slot c dues) :
    (s.scheduled (s.cues.put slot c) dues lines).duesOk := by
  obtain ⟨hnodup, hsorted, hlisted, hin⟩ := h
  have hsame : ∀ {j}, j ≠ slot → (s.scheduled (s.cues.put slot c) dues lines).cue j = s.cue j := fun hj => Bank.get_put_ne _ hj.symm _ _
  have hslotted : (s.scheduled (s.cues.put slot c) dues lines).cue slot = c := Bank.get_put_same _ hslot _ _
  have hdueOf : ∀ {j}, j ≠ slot → (s.scheduled (s.cues.put slot c) dues lines).dueOf j = s.dueOf j := fun hj => by
    rw [State.dueOf, hsame hj]; rfl
  have hrest : ((s.dues.filter (· ≠ slot)).map s.dueOf).Pairwise (· ≤ ·) := hsorted.sublist (List.filter_sublist.map _)
  have hne : ∀ j ∈ s.dues.filter (· ≠ slot), j ≠ slot := fun j hj => by simpa using (List.mem_filter.mp hj).2
  refine ⟨?_, ?_, fun i hi => ?_, fun i hi x hx => ?_⟩
  · rcases hd with ⟨rfl, -⟩ | ⟨x, due, -, -, -, rfl⟩
    · exact hnodup.filter _
    · exact (placeDue_perm _ _ _ _).nodup_iff.mpr (List.nodup_cons.mpr ⟨fun hm => hne _ hm rfl, hnodup.filter _⟩)
  · rcases hd with ⟨rfl, -⟩ | ⟨x, due, rfl, -, hdue, rfl⟩
    · exact (List.map_congr_left fun j hj => hdueOf (hne j hj)) ▸ hrest
    · exact placeDue_sorted (fun j hj => hdueOf (hne j hj)) (by rw [State.dueOf, hslotted, Option.bind_some, hdue]; rfl) hrest
  · by_cases hi' : i = slot
    · subst hi'
      obtain ⟨x, hx, hdue⟩ := hd.slot_mem_iff.mp hi
      rw [hslotted, Option.mem_def.mp hx]
      exact (hd.due_of_listed hx).mpr hdue
    · rw [hsame hi']; exact hlisted i ((hd.mem_iff hi').mp hi)
  · by_cases hi' : i = slot
    · subst hi'
      rw [hslotted] at hx
      have hmem : x.due.isSome = true ↔ i ∈ dues := by
        rw [hd.slot_mem_iff]
        exact ⟨fun hdue => ⟨x, hx, hdue⟩, fun ⟨y, hy, hdue⟩ => by rw [Option.mem_unique hx hy]; exact hdue⟩
      exact ⟨hmem, fun hl => hmem.mp ((hd.due_of_listed hx).mp hl)⟩
    · rw [hsame hi'] at hx
      have := hin i hi x hx
      exact ⟨this.1.trans (hd.mem_iff hi').symm, fun hl => (hd.mem_iff hi').mpr (this.2 hl)⟩

/-- The holders after a slot has been written with the lines (R148). -/
theorem State.linesOk_scheduled (h : s.linesOk) (hslot : slot < 64) (hl : s.Held slot c lines) :
    (s.scheduled (s.cues.put slot c) dues lines).linesOk := by
  intro j hj i hi
  rcases hl j (List.mem_range.mp hj) i hi with ⟨hne, hold⟩ | ⟨rfl, x, hx, hst, hline⟩
  · rw [show (s.scheduled (s.cues.put slot c) dues lines).cue i = s.cue i from Bank.get_put_ne _ hne.symm _ _]
    exact h j hj i hold
  · rw [show (s.scheduled (s.cues.put i c) dues lines).cue i = c from Bank.get_put_same _ hslot _ _, Option.mem_def.mp hx]
    simp [hst, hline]

/-- A slot written with its place in the due list and the lines keeps every law but that of the owners. -/
theorem State.LawsApart.scheduled (h : s.LawsApart) (hslot : slot < 64) (hd : s.Placed slot c dues) (hl : s.Held slot c lines)
    (hok : ∀ x ∈ c, x.ok) (hlane : ∀ x ∈ c, ∀ i ∈ x.anchor.lane?, (s.lane i).state ≠ .free)
    (hu : s.tb.set = false → dues = [] ∧ ∀ x ∈ c, x.state = .suspended) :
    (s.scheduled (s.cues.put slot c) dues lines).LawsApart :=
  { h with
    names := ⟨h.names.1, fun d hd x hx => by
      rcases Bank.mem_put hd with rfl | hd
      · exact hlane x hx
      · exact h.names.2.1 d hd x hx, h.names.2.2⟩
    dues := State.duesOk_scheduled h.dues hslot hd
    lines := State.linesOk_scheduled h.lines hslot hl
    cues := fun d hd x hx => by
      rcases Bank.mem_put hd with rfl | hd
      · exact hok x hx
      · exact h.cues d hd x hx
    unset := fun hset => by
      obtain ⟨h1, h2, h3, -, h5⟩ := h.unset hset
      refine ⟨h1, h2, h3, (hu hset).1, fun d hd x hx => ?_⟩
      rcases Bank.mem_put hd with rfl | hd
      · exact (hu hset).2 x hx
      · exact h5 d hd x hx }

/-- The owners after a slot has been written whose cue keeps its owner (R134). -/
theorem State.ownersOk_scheduled (h : s.ownersOk) (hslot : slot < 64)
    (hown : ∀ n, (∃ x ∈ c, x.owner = some n) ↔ ∃ x ∈ s.cue slot, x.owner = some n) :
    (s.scheduled (s.cues.put slot c) dues lines).ownersOk := by
  have hslotted : (s.scheduled (s.cues.put slot c) dues lines).cue slot = c := Bank.get_put_same _ hslot _ _
  refine ⟨fun n hn d hd i hi => ?_, fun i hi x hx n hn => ?_⟩
  · have hold := h.1 n hn d hd i hi
    by_cases hi' : i = slot
    · subst hi'
      rw [hslotted]
      obtain ⟨y, hy, hyn⟩ := (Option.any_eq_true _ _).mp hold
      obtain ⟨x, hx, hxn⟩ := (hown n).mpr ⟨y, hy, by simpa using hyn⟩
      exact (Option.any_eq_true _ _).mpr ⟨x, hx, by simpa using hxn⟩
    · rw [show (s.scheduled (s.cues.put slot c) dues lines).cue i = s.cue i from Bank.get_put_ne _ (Ne.symm hi') _ _]
      exact hold
  · by_cases hi' : i = slot
    · subst hi'
      rw [hslotted] at hx
      obtain ⟨y, hy, hyn⟩ := (hown n).mp ⟨x, hx, hn⟩
      exact h.2 i hi y hy n hyn
    · rw [show (s.scheduled (s.cues.put slot c) dues lines).cue i = s.cue i from Bank.get_put_ne _ (Ne.symm hi') _ _] at hx
      exact h.2 i hi x hx n hn

end

end Sys2Proof.Machine
end

section
/-! Firing, dropping, finding and suspending cues (Chapter 8): each operation on a slot as one write of the slot, its place in the due list and the
lines, after what is noted on flags and lanes; and the laws that each keeps. -/

namespace Sys2Proof.Machine

/-! ### Conversions -/

/-- A conversion of two parts that is done is done in each. -/
theorem Conv.bind_done {α β : Type} {x : Conv α} {f : α → Conv β} {m : Conds} {b : β} (h : x.bind f = .done m b) :
    ∃ m₁ a m₂, x = .done m₁ a ∧ f a = .done m₂ b ∧ m = m₁.or m₂ := by
  cases x with
  | stopped m₁ c => cases h
  | done m₁ a =>
    cases hf : f a with
    | stopped m₂ c => rw [Conv.bind] at h; simp only [hf] at h; cases h
    | done m₂ b' => rw [Conv.bind] at h; simp only [hf] at h; cases h; exact ⟨m₁, a, m₂, rfl, hf, rfl⟩

/-! ### Firings left -/

/-- The firings left of a series that goes on: above 0, and no more than there were. -/
def Fewer (left' left : Option Nat) : Prop := left' ≠ some 0 ∧ ∀ n ∈ left', ∃ m ∈ left, n ≤ m

theorem Fewer.refl {left : Option Nat} (h : left ≠ some 0) : Fewer left left := ⟨h, fun n hn => ⟨n, hn, le_refl n⟩⟩

theorem Fewer.trans {a b c : Option Nat} (h : Fewer a b) (k : Fewer b c) : Fewer a c :=
  ⟨h.1, fun n hn => by
    obtain ⟨m, hm, hnm⟩ := h.2 n hn
    obtain ⟨j, hj, hmj⟩ := k.2 m hm
    exact ⟨j, hj, hnm.trans hmj⟩⟩

/-- Dues passed over leave firings where some remain (R147). -/
theorem useFirings_fewer {left left' : Option Nat} {n : Nat} (h : useFirings left n = some left') : Fewer left' left := by
  cases left with
  | none => cases h; exact ⟨fun hc => (by cases hc), fun n hn => (by cases hn)⟩
  | some f =>
    rw [useFirings] at h
    split_ifs at h with hlt
    cases h
    exact ⟨fun hc => by simp only [Option.some.injEq] at hc; omega, fun k hk => ⟨f, rfl, by cases hk; omega⟩⟩

/-- The wildcard series leaves firings where it goes on (R142, R147). -/
theorem wildSeries_fewer {l : Lane} {p : Label} {o t : Int} {fuel : Nat} {k k' : Int} {left left' : Option Nat} (hleft : left ≠ some 0)
    (h : l.wildSeries p o t fuel k left = some (k', some left')) : Fewer left' left := by
  induction fuel generalizing k left with
  | zero => cases h
  | succ fuel ih =>
    rw [Lane.wildSeries] at h
    split_ifs at h with hcovers ht
    · cases h; exact Fewer.refl hleft
    · cases hu : useFirings left 1 with
      | none => rw [hu] at h; cases h
      | some left₁ =>
        rw [hu] at h
        have hfewer := useFirings_fewer hu
        exact (ih hfewer.1 h).trans hfewer
    · exact ih hleft h

/-- A due converted keeps the firings left. -/
theorem NextDue.left_of_bind {x : Conv Nat} {left : Option Nat} {cur : Option Int} {m : Conds} {nd : NextDue}
    (h : (x.bind fun due => .done .none (some ⟨due, left, cur⟩)) = .done m (some nd)) : nd.left = left := by
  obtain ⟨_, due, _, -, hdue, -⟩ := Conv.bind_done h
  cases hdue; rfl

/-- A due converted within its class keeps the firings left. -/
theorem NextDue.left_of_class {p : Prop} [Decidable p] {x : Conv Nat} {left : Option Nat} {cur : Option Int} {m : Conds} {nd : NextDue}
    (h : (if p then x.bind fun due => .done .none (some ⟨due, left, cur⟩) else .done .none none) = .done m (some nd)) : nd.left = left := by
  split_ifs at h
  · exact NextDue.left_of_bind h
  · cases h

/-- A series that goes on has firings left (R147). -/
theorem State.seriesNext_fewer {s : State} {c : Cue} {left : Option Nat} {d t : Nat} {m : Conds} {nd : NextDue} (hleft : left ≠ some 0)
    (h : (s.seriesNext c left d t).next = .done m (some nd)) : Fewer nd.left left := by
  unfold State.seriesNext at h
  split at h
  · dsimp only at h
    split at h
    · cases h
    · next left' hu =>
      split_ifs at h <;> cases h
      exact useFirings_fewer hu
  · dsimp only at h
    split_ifs at h
    · split at h
      · cases h
      · cases h
      · next k left' hw =>
        exact NextDue.left_of_bind h ▸ wildSeries_fewer hleft hw
    · dsimp only at h
      split at h
      · cases h
      · next left' hu => exact NextDue.left_of_bind h ▸ useFirings_fewer hu
  · dsimp only at h
    split at h
    · cases h
    · next left' hu =>
      exact NextDue.left_of_class h ▸ useFirings_fewer hu

/-! ### The lines of a slot's operation -/

section
variable {s : State} {slot : Nat} {c : Cue}

/-- A pulse ended touches the lines alone. -/
theorem releaseLine_scheduled (s : State) (slot : Nat) (line : Option Nat) :
    releaseLine slot line s = s.scheduled s.cues s.dues (releaseLine slot line s).lines := by
  rw [releaseLine_eq]
  split
  · rfl
  · split_ifs <;> rfl

/-- The lines after the pulse of a slot has ended: the slot holds none (R149). -/
theorem holder_releaseLine (h : s.linesOk) (hc : s.cue slot = some c) {j i : Nat} (hj : j < 8)
    (hi : i ∈ ((releaseLine slot c.line s).line j).holder) : i ≠ slot ∧ (s.line j).holder = some i := by
  have hown : (s.line j).holder = some slot → c.line = some j := by
    intro hh
    have := h j (List.mem_range.mpr hj) slot hh
    rw [hc] at this
    simpa using (of_decide_eq_true this).2
  rw [releaseLine_eq] at hi
  split at hi
  · next hline => exact ⟨fun he => (by subst he; rw [hown hi] at hline; cases hline), hi⟩
  · next k hline =>
    split_ifs at hi with hk
    · by_cases hjk : j = k
      · subst hjk
        rw [State.line, State.setLine, Bank.get_put_same _ hj] at hi; cases hi
      · rw [State.line, State.setLine, Bank.get_put_ne _ (Ne.symm hjk)] at hi
        exact ⟨fun he => (by subst he; have := hown hi; rw [hline] at this; cases this; exact hjk rfl), hi⟩
    · refine ⟨fun he => ?_, hi⟩
      subst he
      have := hown hi
      rw [hline] at this
      cases this
      exact hk hi

/-- The lines when the cue's pulse ends with the slot made FREE or suspended. -/
theorem held_releaseLine (h : s.linesOk) (hc : s.cue slot = some c) (x : Option Cue) : s.Held slot x (releaseLine slot c.line s).lines :=
  fun _ hj _ hi => Or.inl (holder_releaseLine h hc hj hi)

/-- The lines where the slot's cue does not pulse. -/
theorem held_of_not_pulsing (h : s.linesOk) (hc : ∀ y ∈ s.cue slot, y.state ≠ .pulsing) (x : Option Cue) : s.Held slot x s.lines := by
  intro j hj i hi
  refine Or.inl ⟨fun he => ?_, hi⟩
  subst he
  obtain ⟨y, hy, hyp⟩ := (Option.any_eq_true _ _).mp (h j (List.mem_range.mpr hj) i hi)
  exact hc y hy (of_decide_eq_true hyp).1

/-- The lines where the slot's cue goes on with its pulse. -/
theorem held_of_pulsing (h : s.linesOk) (hc : s.cue slot = some c) {x : Cue} (hx : c.state = .pulsing → x.state = .pulsing ∧ x.line = c.line) :
    s.Held slot (some x) s.lines := by
  intro j hj i hi
  by_cases he : i = slot
  · subst he
    have hold := h j (List.mem_range.mpr hj) i hi
    rw [hc] at hold
    obtain ⟨hst, hline⟩ := of_decide_eq_true hold
    exact Or.inr ⟨rfl, x, rfl, (hx hst).1, (hx hst).2.trans hline⟩
  · exact Or.inl ⟨he, hi⟩

/-- The restaged cue's line. -/
theorem Cue.restaged_line (c : Cue) : c.restaged.line = c.line ∧ c.restaged.flagOnFire = c.flagOnFire ∧ c.restaged.owner = c.owner
    ∧ c.restaged.anchor = c.anchor ∧ c.restaged.left = c.left ∧ c.restaged.repeatCount = c.repeatCount ∧ c.restaged.drop = c.drop := by
  unfold Cue.restaged
  cases c.staged <;> exact ⟨rfl, rfl, rfl, rfl, rfl, rfl, rfl⟩

/-- The lines after steps 1 to 4 of a firing (R146). -/
def State.firedLines (s : State) (slot : Nat) (c : Cue) : Bank Line 8 :=
  (driveLine slot c.restaged (if c.state = .pulsing ∧ c.restaged.action ≠ .pulse then releaseLine slot c.line s else s)).lines

/-- The holders after a firing (R146, R148). -/
theorem held_fired (h : s.linesOk) (hc : s.cue slot = some c) {x : Option Cue}
    (hx : c.restaged.action = .pulse → ∃ y ∈ x, y.state = .pulsing ∧ y.line = c.line) : s.Held slot x (s.firedLines slot c) := by
  have hended : ∀ j < 8, ∀ i ∈ ((if c.state = .pulsing ∧ c.restaged.action ≠ .pulse then releaseLine slot c.line s else s).line j).holder,
      (i ≠ slot ∧ (s.line j).holder = some i) ∨ i = slot ∧ ∃ y ∈ x, y.state = .pulsing ∧ y.line = some j := by
    split_ifs with hend
    · exact held_releaseLine h hc x
    · by_cases hp : c.restaged.action = .pulse
      · obtain ⟨y, hy, hst, hline⟩ := hx hp
        rw [Option.mem_def.mp hy]
        exact held_of_pulsing h hc fun _ => ⟨hst, hline⟩
      · refine held_of_not_pulsing h (fun y hy hst => hend ⟨?_, hp⟩) x
        rw [hc] at hy; cases hy; exact hst
  intro j hj i hi
  replace hi : i ∈ ((driveLine slot c.restaged
      (if c.state = .pulsing ∧ c.restaged.action ≠ .pulse then releaseLine slot c.line s else s)).line j).holder := hi
  generalize (if c.state = .pulsing ∧ c.restaged.action ≠ .pulse then releaseLine slot c.line s else s) = ended at hended hi
  unfold driveLine at hi
  split at hi
  · exact hended j hj i hi
  · next k hline =>
    split_ifs at hi with hnone
    · exact hended j hj i hi
    · by_cases hjk : j = k
      · subst hjk
        rw [State.line, State.setLine, Bank.get_put_same _ hj] at hi
        cases hact : c.restaged.action <;> rw [hact] at hi
        · exact absurd hact hnone
        · cases hi
        · cases hi
        · cases hi
        · cases hi
          obtain ⟨y, hy, hst, hyl⟩ := hx hact
          exact Or.inr ⟨rfl, y, hy, hst, by rw [hyl, ← c.restaged_line.1, hline]⟩
      · rw [State.line, State.setLine, Bank.get_put_ne _ (Ne.symm hjk)] at hi
        exact hended j hj i hi

/-! ### One equation for each operation -/

/-- A slot made FREE. -/
theorem freeSlot_scheduled (hc : s.cue slot = some c) :
    freeSlot slot s = s.scheduled (s.cues.put slot none) (s.dues.filter (· ≠ slot)) (releaseLine slot c.line s).lines := by
  rw [freeSlot, hc]
  simp only [releaseLine_eq]
  cases c.line with
  | none => rfl
  | some j =>
    dsimp only
    rw [show (leaveDues slot s).line j = s.line j from rfl]
    split_ifs <;> rfl

/-- A due set for a cue. -/
theorem enterDues_scheduled (s : State) (slot : Nat) (c : Cue) (due : Nat) :
    enterDues slot c due s
      = s.scheduled (s.cues.put slot (some { c with due := some due })) (placeDue s.dueOf slot due (s.dues.filter (· ≠ slot))) s.lines := rfl

/-- A due set for a cue that has left the list is set all the same. -/
theorem enterDues_leaveDues (s : State) (slot : Nat) (c : Cue) (due : Nat) : enterDues slot c due (leaveDues slot s) = enterDues slot c due s := by
  have hfilter : (leaveDues slot s).dues.filter (· ≠ slot) = s.dues.filter (· ≠ slot) := by
    rw [leaveDues, State.setDues]; simp
  rw [enterDues_scheduled, enterDues_scheduled, hfilter]; rfl

/-- Steps 1 to 4 of a firing: what is noted, the list, and the lines (R146). -/
theorem fireActs_scheduled (slot : Nat) (c : Cue) (s : State) :
    fireActs slot c s
      = (raiseIf c.flagOnFire .cueFired s).scheduled s.cues (s.dues.filter (· ≠ slot)) (s.firedLines slot c) := by
  unfold fireActs State.firedLines driveLine
  dsimp only
  rw [c.restaged_line.2.1]
  simp only [releaseLine_eq, show ∀ j, (leaveDues slot s).line j = s.line j from fun _ => rfl]
  cases c.flagOnFire <;> cases c.line <;> cases c.restaged.line <;> dsimp only <;> split_ifs <;> rfl

/-- What a firing leaves in the slot when no firings remain (R146, R147). -/
def Cue.spent (c : Cue) : Option Cue := if c.action = .pulse then some { c with state := .pulsing, left := some 0, due := none } else none

theorem lastFiring_eq (slot : Nat) (c : Cue) (s : State) : lastFiring slot c s = s.setCue slot c.spent := by
  unfold lastFiring Cue.spent
  split_ifs <;> rfl

/-- The next due is found from the lanes alone. -/
theorem State.seriesNext_congr {s u : State} (h : u.lanes = s.lanes) (c : Cue) (left : Option Nat) (d t : Nat) :
    u.seriesNext c left d t = s.seriesNext c left d t := by
  unfold State.seriesNext State.lane
  rw [h]

/-- Conditions noted do not touch the schedule. -/
theorem stickOpt_scheduled (i : Option Nat) (m : Conds) (s : State) (cues : Bank (Option Cue) 64) (dues : List Nat) (lines : Bank Line 8) :
    stickOpt i m (s.scheduled cues dues lines) = (stickOpt i m s).scheduled cues dues lines := by
  cases i with
  | none => rfl
  | some i =>
    rw [stickOpt, stickOpt, stick, stick, raiseIf, raiseIf]
    rw [show (s.scheduled cues dues lines).lane i = s.lane i from rfl]
    split_ifs <;> rfl

/-- A cue's firing, where no firings remain (R146). -/
theorem fireCue_last (hc : s.cue slot = some c) (hf : c.fired.further = false) :
    fireCue slot s
      = (raiseIf c.flagOnFire .cueFired s).scheduled (s.cues.put slot c.fired.spent) (s.dues.filter (· ≠ slot)) (s.firedLines slot c) := by
  rw [fireCue, hc]
  simp only [fireActs_scheduled, hf, Bool.false_eq_true, if_false, lastFiring_eq]; rfl

/-- How a cue's series goes on after its firing (R147). -/
def State.seriesAfter (s : State) (c : Cue) : Series := s.seriesNext c.fired c.fired.left (c.due.getD s.tb.pt) s.tb.pt

/-- What is noted by a cue's firing: CUE_FIRED where it is asked for, and the conditions met in finding the next due. -/
def State.firedNoted (s : State) (c : Cue) : State :=
  stickOpt c.anchor.lane? (s.seriesAfter c).next.met (raiseIf c.flagOnFire .cueFired s)

theorem firedNoted_noted (s : State) (c : Cue) : Noted s (s.firedNoted c) := (Noted.refl.raiseIf _ _).stickOpt _ _

/-- A cue as it goes on with its series (R146, R147). -/
def Cue.resumed (c : Cue) (n : NextDue) : Cue :=
  { c.fired with
    state := if c.fired.action = .pulse then .pulsing else .waiting, left := n.left, current := n.current, due := some n.due }

/-- A cue's firing, where its series may go on. -/
theorem fireCue_more (hc : s.cue slot = some c) (hf : c.fired.further = true) :
    (∀ m n, (s.seriesAfter c).next = .done m (some n) →
        fireCue slot s
          = (s.firedNoted c).scheduled (s.cues.put slot (some (c.resumed n))) (placeDue s.dueOf slot n.due (s.dues.filter (· ≠ slot)))
              (s.firedLines slot c))
      ∧ (∀ m, (s.seriesAfter c).next = .done m none →
          fireCue slot s
            = (s.firedNoted c).scheduled (s.cues.put slot ({ c.fired with current := (s.seriesAfter c).last } : Cue).spent)
                (s.dues.filter (· ≠ slot)) (s.firedLines slot c))
      ∧ (∀ m k, (s.seriesAfter c).next = .stopped m k →
          fireCue slot s
            = (raise .cueDropped (s.firedNoted c)).scheduled (s.cues.put slot ({ c.fired with current := (s.seriesAfter c).last } : Cue).spent)
                (s.dues.filter (· ≠ slot)) (s.firedLines slot c)) := by
  have hlane : c.fired.anchor.lane? = c.anchor.lane? := congrArg Anchor.lane? c.restaged_line.2.2.2.1
  have htb : (fireActs slot c s).tb = s.tb := (fireActs_touch s slot c).keeps.2.2.2.1
  have hlanes : (fireActs slot c s).lanes = s.lanes := by rw [fireActs_scheduled]; exact raiseIf_lanes _ _ _
  have hseries : (fireActs slot c s).seriesNext c.fired c.fired.left (c.due.getD s.tb.pt) (fireActs slot c s).tb.pt = s.seriesAfter c := by
    rw [htb]; exact State.seriesNext_congr hlanes _ _ _ _
  have hnoted : stickOpt c.fired.anchor.lane? (s.seriesAfter c).next.met (fireActs slot c s)
      = (s.firedNoted c).scheduled s.cues (s.dues.filter (· ≠ slot)) (s.firedLines slot c) := by
    rw [hlane, fireActs_scheduled, stickOpt_scheduled]; rfl
  have hfilter : (s.dues.filter (· ≠ slot)).filter (· ≠ slot) = s.dues.filter (· ≠ slot) := by simp
  rw [fireCue, hc]
  simp only [hf, if_true, hseries, hnoted]
  refine ⟨fun m n hn => ?_, fun m hn => ?_, fun m k hn => ?_⟩
  · simp only [hn]
    rw [enterDues_scheduled]
    simp only [State.scheduled, hfilter]; rfl
  · simp only [hn, lastFiring_eq]; rfl
  · simp only [hn, lastFiring_eq]; rfl

end

/-! ### The laws of a slot's operation -/

section
variable {s u : State} {slot : Nat} {c : Cue} {x : Option Cue} {dues : List Nat} {lines : Bank Line 8}

/-- The cue of a lawful state, and the lane it names. -/
theorem State.LawsApart.cue_ok (h : s.LawsApart) (hc : s.cue slot = some c) :
    c.ok ∧ (∀ i ∈ c.anchor.lane?, (s.lane i).state ≠ .free) ∧ (s.tb.set = false → c.state = .suspended) := by
  have hmem : some c ∈ s.cues.list := hc ▸ Bank.get_mem _ (State.cue_lt hc) _
  exact ⟨h.cues _ hmem c rfl, h.names.2.1 _ hmem c rfl, fun hu => (h.unset hu).2.2.2.2 _ hmem c rfl⟩

/-- An operation on a slot that keeps the anchor of its cue keeps every law but that of the owners. -/
theorem State.LawsApart.slotWritten (h : s.LawsApart) (hc : s.cue slot = some c) (hu : Noted s u) (hd : s.Placed slot x dues)
    (hl : s.Held slot x lines) (hok : ∀ y ∈ x, y.ok ∧ y.anchor = c.anchor) (hun : s.tb.set = false → dues = [] ∧ ∀ y ∈ x, y.state = .suspended) :
    (u.scheduled (s.cues.put slot x) dues lines).LawsApart := by
  obtain ⟨hcues, hdues, hlines, -, htb, -⟩ := hu.keeps
  have hplaced : u.Placed slot x dues := by
    have hdueOf : u.dueOf = s.dueOf := by funext j; rw [State.dueOf, State.dueOf, State.cue, State.cue, hcues]
    rw [State.Placed, hdues, hdueOf]; exact hd
  have hheld : u.Held slot x lines := by rw [State.Held]; simp only [State.line, hlines]; exact hl
  rw [← hcues]
  refine (hu.lawsApart h).scheduled (State.cue_lt hc) hplaced hheld (fun y hy => (hok y hy).1) (fun y hy i hi => ?_) (fun hs => hun (htb ▸ hs))
  rw [hu.lane i]
  exact (h.cue_ok hc).2.1 i ((hok y hy).2 ▸ hi)

/-- An operation on a slot that keeps the anchor and the owner of its cue keeps every law. -/
theorem State.Laws.slotWritten (h : s.Laws) (hc : s.cue slot = some c) (hu : Noted s u) (hd : s.Placed slot x dues) (hl : s.Held slot x lines)
    (hok : ∀ y ∈ x, y.ok ∧ y.anchor = c.anchor ∧ y.owner = c.owner) (hown : x = none → c.owner = none)
    (hun : s.tb.set = false → dues = [] ∧ ∀ y ∈ x, y.state = .suspended) : (u.scheduled (s.cues.put slot x) dues lines).Laws := by
  refine { h.toLawsApart.slotWritten hc hu hd hl (fun y hy => ⟨(hok y hy).1, (hok y hy).2.1⟩) hun with owners := ?_ }
  obtain ⟨hcues, -⟩ := hu.keeps
  rw [← hcues]
  refine State.ownersOk_scheduled (hu.laws h).owners (State.cue_lt hc) fun n => ?_
  rw [show u.cue slot = some c by rw [State.cue, hcues]; exact hc]
  cases x with
  | none => simp [hown rfl]
  | some y => simp [(hok y rfl).2.2]

/-- The width, the action and the block staged of a cue once restaged (R146). -/
theorem Cue.restaged_ok (h : c.ok) :
    54 ≤ c.restaged.width ∧ c.restaged.width ≤ 54000000 ∧ (c.restaged.action ≠ .none → c.line.isSome = true) ∧ c.restaged.staged = none
      ∧ (c.owner.isSome = true → c.restaged.action = .pulse) := by
  obtain ⟨hw, hw', -, hact, -, -, hstaged, -, hown⟩ := h
  unfold Cue.restaged
  cases hs : c.staged with
  | none => exact ⟨hw, hw', hact, hs, fun ho => (hown ho).1⟩
  | some b =>
    obtain ⟨hb, hb', hba⟩ := hstaged b hs
    exact ⟨hb, hb', hba, rfl, fun ho => by rw [(hown ho).2.1] at hs; cases hs⟩

/-- A cue that has fired keeps its laws with firings left, or in a pulse (R140, R146). -/
theorem Cue.fired_ok (h : c.ok) {st : CueState} {left : Option Nat} {current : Option Int} {due : Option Nat}
    (hleft : ∀ n ∈ left, n ≤ c.repeatCount + 1) (hst : st ≠ .pulsing → left ≠ some 0 ∧ c.restaged.action ≠ .pulse) :
    ({ c.fired with state := st, left := left, current := current, due := due } : Cue).ok := by
  obtain ⟨hw, hw', hact, hstaged, hpulse⟩ := Cue.restaged_ok h
  obtain ⟨-, -, hline, -, -, -, -, hlane, hown⟩ := h
  obtain ⟨el, -, eo, ea, -, er, ed⟩ := c.restaged_line
  refine ⟨hw, hw', fun j hj => hline j (el ▸ hj), fun ha => ?_, fun n hn => ?_, fun hs => ⟨?_, ?_⟩, fun b hb => ?_, fun i hi => hlane i (ea ▸ hi), fun ho => ?_⟩
  · exact (congrArg Option.isSome el).trans (hact ha)
  · exact (hleft n hn).trans_eq (congrArg (· + 1) er.symm)
  · exact decide_eq_true (hst hs).1
  · exact if_neg (hst hs).2
  · exact absurd (hstaged.symm.trans hb) (by simp)
  · have howner : c.owner.isSome = true := (congrArg Option.isSome eo).symm.trans ho
    obtain ⟨-, -, hrep, hdrop, hanchor⟩ := hown howner
    exact ⟨hpulse howner, hstaged, er.trans hrep, ed.trans hdrop, (congrArg (fun a => a.lane?.isSome) ea).trans hanchor⟩

/-- A cue that has fired, with its next due. -/
theorem Cue.resumed_ok (h : c.ok) {n : NextDue} (hn : Fewer n.left c.fired.left) : (c.resumed n).ok ∧ (c.resumed n).listed = true := by
  have hnleft : ∀ k ∈ n.left, k ≤ c.repeatCount + 1 := fun k hk => by
    obtain ⟨m, hm, hkm⟩ := hn.2 k hk
    have hfired : c.fired.left = c.left.map (· - 1) := congrArg (Option.map (· - 1)) c.restaged_line.2.2.2.2.1
    rw [hfired] at hm
    obtain ⟨j, hj, rfl⟩ := Option.mem_map.mp hm
    have := h.2.2.2.2.1 j hj
    omega
  have hfurther : (c.resumed n).further = true := decide_eq_true hn.1
  refine ⟨Cue.fired_ok h hnleft fun hst => ⟨hn.1, fun hp => hst (if_pos hp)⟩, ?_⟩
  rw [Cue.listed, hfurther, Bool.and_true]
  by_cases hp : c.fired.action = .pulse <;> simp [Cue.resumed, hp]

/-- A cue after its last firing. -/
theorem Cue.spent_ok (h : c.ok) (current : Option Int) :
    ∀ y ∈ ({ c.fired with current := current } : Cue).spent, y.ok ∧ y.anchor = c.anchor ∧ y.owner = c.owner ∧ y.listed = false ∧ y.due = none
      ∧ y.state = .pulsing ∧ y.line = c.line := by
  intro y hy
  unfold Cue.spent at hy
  split_ifs at hy
  · cases hy
    exact ⟨Cue.fired_ok h (fun n hn => by cases hn; omega) fun hst => absurd rfl hst, c.restaged_line.2.2.2.1, c.restaged_line.2.2.1, rfl, rfl, rfl, c.restaged_line.1⟩
  · cases hy

/-- The slot after a last firing is FREE only where the action is no PULSE, which no device's cue has (R156). -/
theorem Cue.owner_of_spent_none (h : c.ok) {current : Option Int} (hs : ({ c.fired with current := current } : Cue).spent = none) : c.owner = none := by
  unfold Cue.spent at hs
  split_ifs at hs with hp
  rw [← Option.not_isSome_iff_eq_none]
  exact fun ho => hp ((Cue.restaged_ok h).2.2.2.2 ho)

/-- A PULSE is running after a last firing. -/
theorem Cue.spent_pulse (current : Option Int) (hp : c.restaged.action = .pulse) :
    ∃ y ∈ ({ c.fired with current := current } : Cue).spent, y.state = .pulsing ∧ y.line = c.line :=
  ⟨_, if_pos hp, rfl, c.restaged_line.1⟩

/-- A firing keeps every law, the time SET (R146, R147). -/
theorem State.Laws.fired (h : s.Laws) (hset : s.tb.set = true) (slot : Nat) : (fireCue slot s).Laws := by
  cases hc : s.cue slot with
  | none => rw [fireCue, hc]; exact h
  | some c =>
    have hok := (h.cue_ok hc).1
    have hspent : ∀ (u : State) (current : Option Int), Noted s u →
        (u.scheduled (s.cues.put slot ({ c.fired with current := current } : Cue).spent) (s.dues.filter (· ≠ slot)) (s.firedLines slot c)).Laws :=
      fun u current hu => h.slotWritten hc hu (Or.inl ⟨rfl, fun y hy => ⟨(Cue.spent_ok hok current y hy).2.2.2.1, (Cue.spent_ok hok current y hy).2.2.2.2.1⟩⟩)
        (held_fired h.lines hc (Cue.spent_pulse current)) (fun y hy => ⟨(Cue.spent_ok hok current y hy).1, (Cue.spent_ok hok current y hy).2.1, (Cue.spent_ok hok current y hy).2.2.1⟩)
        (fun hs => Cue.owner_of_spent_none hok hs) fun hn => absurd (hset.symm.trans hn) (by decide)
    cases hf : c.fired.further with
    | false => rw [fireCue_last hc hf]; exact hspent _ c.fired.current (Noted.refl.raiseIf _ _)
    | true =>
      obtain ⟨hnext, hend, hstop⟩ := fireCue_more hc hf
      have hnoted := firedNoted_noted s c
      cases hn : (s.seriesAfter c).next with
      | stopped m k => rw [hstop m k hn]; exact hspent _ _ (hnoted.raise _)
      | done m nd =>
        cases nd with
        | none => rw [hend m hn]; exact hspent _ _ hnoted
        | some n =>
          obtain ⟨hresumed, hlisted⟩ := Cue.resumed_ok hok (State.seriesNext_fewer (of_decide_eq_true hf) hn)
          rw [hnext m n hn]
          refine h.slotWritten hc hnoted (Or.inr ⟨_, n.due, rfl, hlisted, rfl, rfl⟩) (held_fired h.lines hc fun hp => ?_) (fun y hy => ?_)
            (fun hx => by cases hx) (fun hn => absurd (hset.symm.trans hn) (by decide))
          · exact ⟨_, rfl, if_pos hp, c.restaged_line.1⟩
          · cases hy; exact ⟨hresumed, c.restaged_line.2.2.2.1, c.restaged_line.2.2.1⟩

end

end Sys2Proof.Machine
end

section
/-! What the device records keep of the laws (Chapter 7), and the cue operations that tell a device of its cue (section 7.6). -/

namespace Sys2Proof.Machine

/-! ### A device's laws by name -/

/-- The laws of a registered device, each by name. -/
structure Device.Laws (d : Device) : Prop where
  settings : d.lane ≤ 15 ∧ (∀ i ∈ d.input, i ≤ 7) ∧ 54 ≤ d.outlierLimit ∧ d.outlierLimit ≤ 1080000 ∧ 0 ≤ d.offsetTol ∧ d.offsetTol ≤ 54000000
    ∧ 0 ≤ d.driftTol ∧ d.driftTol ≤ 2000000 ∧ 1 ≤ d.span ∧ d.span ≤ 600 ∧ 1 ≤ d.silence ∧ d.silence ≤ 3600
    ∧ (∀ r ∈ d.rejam, r.1 ≤ 7 ∧ 54 ≤ r.2 ∧ r.2 ≤ 54000000)
  length : d.ring.length ≤ 8
  top : d.top < 8
  order : (d.ring.map Obs.pt).Pairwise (· > ·)
  offset : d.offsetEst = d.newestValid.map Obs.offset
  drift : ∀ v ∈ d.driftEst, |v| ≤ 2000000
  valid : d.driftEst.isSome = true → d.newestValid.isSome = true
  outliers : d.outliers ≤ 2
  cue : d.cue.isSome = true ↔ d.state = .rejamPending
  silence : d.silenceLeft.isSome = true ↔ d.state.listens = true
  unseen : d.state = .unseen → d.ring = []
  ringless : d.ring = [] → d.state = .unseen ∨ d.state = .rejamPending
  left : ∀ n ∈ d.silenceLeft, n ≤ d.silenceTicks

theorem Device.ok_iff_laws (d : Device) : d.ok ↔ d.Laws := by
  constructor
  · rintro ⟨h1, h2, h3, h4, h5, h6, h7, h8, h9, h10, h11, h12, h13, h14, h15, h16, h17, h18, h19, h20, h21, h22, h23, h24, h25⟩
    exact ⟨⟨h1, h2, h3, h4, h5, h6, h7, h8, h9, h10, h11, h12, h13⟩, h14, h15, h16, h17, h18, h19, h20, h21, h22, h23, h24, h25⟩
  · rintro ⟨⟨h1, h2, h3, h4, h5, h6, h7, h8, h9, h10, h11, h12, h13⟩, h14, h15, h16, h17, h18, h19, h20, h21, h22, h23, h24, h25⟩
    exact ⟨h1, h2, h3, h4, h5, h6, h7, h8, h9, h10, h11, h12, h13, h14, h15, h16, h17, h18, h19, h20, h21, h22, h23, h24, h25⟩

section
variable {d : Device}

/-- A device with an empty record, in UNSEEN without a cue (R119, R120, R134). -/
theorem Device.Laws.cleared (h : d.Laws) : ({ d.emptied with state := .unseen, cue := none } : Device).Laws :=
  { settings := h.settings
    length := by simp [Device.emptied]
    top := by simp [Device.emptied]
    order := by simp [Device.emptied]
    offset := rfl
    drift := fun v hv => by simp [Device.emptied] at hv
    valid := fun hv => by simp [Device.emptied] at hv
    outliers := by simp [Device.emptied]
    cue := by simp
    silence := by simp [Device.emptied, DeviceState.listens]
    unseen := fun _ => rfl
    ringless := fun _ => Or.inl rfl
    left := fun n hn => by simp [Device.emptied] at hn }

/-- A device whose cue has left the table (R134). -/
theorem Device.Laws.cueGone (h : d.Laws) (completed : Bool) : (d.cueGone completed).Laws := by
  unfold Device.cueGone
  split_ifs with hdone hempty
  · exact h.cleared
  · have hring : d.ring = [] := List.isEmpty_iff.mp hempty
    exact { h with
      cue := by simp
      silence := by simp [DeviceState.listens]
      unseen := fun _ => hring
      ringless := fun _ => Or.inl rfl
      left := fun n hn => by simp at hn }
  · exact { h with
      cue := by simp
      silence := by simp [DeviceState.listens]
      unseen := fun hc => by simp at hc
      ringless := fun hr => absurd (List.isEmpty_iff.mpr hr) hempty
      left := fun n hn => by cases hn; exact le_refl _ }

/-- What the end of its cue leaves of a device. -/
theorem Device.cueGone_keeps (d : Device) (completed : Bool) :
    (d.cueGone completed).lane = d.lane ∧ (d.cueGone completed).input = d.input ∧ (d.cueGone completed).cue = none
      ∧ (d.ring = [] → (d.cueGone completed).ring = []) := by
  unfold Device.cueGone
  split_ifs
  · exact ⟨rfl, rfl, rfl, fun _ => rfl⟩
  · exact ⟨rfl, rfl, rfl, id⟩
  · exact ⟨rfl, rfl, rfl, id⟩

/-- A device that has fallen silent (R133). -/
theorem Device.Laws.lost (h : d.Laws) (hst : d.state.listens = true) : ({ d with state := .lost, silenceLeft := none } : Device).Laws := by
  have hlistens : d.state = .acquiring ∨ d.state = .tracking ∨ d.state = .outOfTolerance := of_decide_eq_true hst
  have hpending : d.state ≠ .rejamPending := by rcases hlistens with hs | hs | hs <;> rw [hs] <;> decide
  have hunseen : d.state ≠ .unseen := by rcases hlistens with hs | hs | hs <;> rw [hs] <;> decide
  exact { h with
    cue := by simpa [Option.isSome_iff_ne_none] using fun hc => hpending (h.cue.mp (Option.isSome_iff_ne_none.mpr hc))
    silence := by simp [DeviceState.listens]
    unseen := fun hc => by simp at hc
    ringless := fun hr => absurd (h.ringless hr) (by simp [hpending, hunseen])
    left := fun n hn => by simp at hn }

/-- A device that asks for a re-jam (R132). -/
theorem Device.Laws.pending (h : d.Laws) (slot : Nat) :
    ({ d with state := .rejamPending, silenceLeft := none, cue := some slot } : Device).Laws :=
  { h with
    cue := by simp
    silence := by simp [DeviceState.listens]
    unseen := fun hc => by simp at hc
    ringless := fun _ => Or.inr rfl
    left := fun n hn => by simp at hn }

/-- The newest VALID entry of a ring whose entries are changed but for their tags. -/
theorem find_valid_map (ring : List Obs) {f : Obs → Obs} (hf : ∀ o, (f o).tag = o.tag) :
    (ring.map f).find? (fun o => o.tag = .valid) = (ring.find? fun o => o.tag = .valid).map f := by
  rw [List.find?_map]
  congr 2
  funext o
  simp [hf]

/-- A step of PT keeps a device's laws (R135). -/
theorem Device.Laws.stepped (h : d.Laws) (a : Int) : (d.stepped a).Laws := by
  have hnewest : (d.stepped a).newestValid = d.newestValid.map fun o => { o with pt := o.pt + a } := find_valid_map d.ring fun _ => rfl
  exact { h with
    length := by simpa [Device.stepped] using h.length
    order := by
      have := h.order
      rw [List.pairwise_map] at this
      simp only [Device.stepped, List.map_map, List.pairwise_map, Function.comp]
      exact this.imp fun hab => by omega
    offset := by rw [hnewest]; simpa [Device.stepped, Function.comp_def] using h.offset
    valid := fun hv => by rw [hnewest]; simpa using h.valid hv
    unseen := fun hst => by simp [Device.stepped, h.unseen hst]
    ringless := fun hr => h.ringless (by simpa [Device.stepped] using hr) }

/-- A mapping change keeps a device's laws (R136). -/
theorem Device.Laws.shifted (h : d.Laws) (i : Nat) (shift : Int) : (d.shifted i shift).Laws := by
  unfold Device.shifted
  split_ifs
  · have hnewest : ({ d with ring := d.ring.map fun o => { o with offset := o.offset + shift }, offsetEst := d.offsetEst.map (· + shift) } : Device).newestValid
        = d.newestValid.map fun o => { o with offset := o.offset + shift } := find_valid_map d.ring fun _ => rfl
    exact { h with
      length := by simpa using h.length
      order := by simpa [Function.comp_def] using h.order
      offset := by rw [hnewest, h.offset]; simp [Function.comp_def]
      valid := fun hv => by rw [hnewest]; simpa using h.valid hv
      unseen := fun hst => by simp [h.unseen hst]
      ringless := fun hr => h.ringless (by simpa using hr) }
  · exact h

/-- A time discontinuity keeps a device's laws (R137). -/
theorem Device.Laws.discontinued (h : d.Laws) : d.discontinued.Laws := by
  have hstate : d.discontinued.state = if d.cue.isSome then d.state else .unseen := rfl
  have hpending : d.discontinued.state = .unseen ∨ d.discontinued.state = .rejamPending := by
    rw [hstate]; split_ifs with hc
    · exact Or.inr (h.cue.mp hc)
    · exact Or.inl rfl
  exact { settings := h.settings
          length := by simp [Device.discontinued, Device.emptied]
          top := by simp [Device.discontinued, Device.emptied]
          order := by simp [Device.discontinued, Device.emptied]
          offset := rfl
          drift := fun v hv => by simp [Device.discontinued, Device.emptied] at hv
          valid := fun hv => by simp [Device.discontinued, Device.emptied] at hv
          outliers := by simp [Device.discontinued, Device.emptied]
          cue := by
            rw [hstate]
            change d.cue.isSome = true ↔ _
            split_ifs with hc
            · simp [hc, h.cue.mp hc]
            · simp [hc]
          silence := by rcases hpending with hp | hp <;> rw [hp] <;> simp [Device.discontinued, Device.emptied, DeviceState.listens]
          unseen := fun _ => rfl
          ringless := fun _ => hpending
          left := fun n hn => by simp [Device.discontinued, Device.emptied] at hn }

/-- The tags of a ring do not bear on its instants. -/
theorem turnOver_pt (ring : List Obs) : (turnOver ring).map Obs.pt = ring.map Obs.pt := by
  rw [turnOver]
  exact List.ext_getElem (by simp) fun i h1 h2 => by simp

/-- A filed observation: what the device record is before its estimates (R121, R126, R127). -/
theorem Device.file_spec (d : Device) (t : Int) (count : Nat) (offset : Int) (source : Option Nat) :
    ∃ o ring top outliers, (d.file t count offset source).1 = { d with ring := ring, top := top, outliers := outliers } ∧ o.pt = t
      ∧ ring.map Obs.pt = ((o :: d.ring).take 8).map Obs.pt ∧ top < 8 ∧ outliers ≤ 2 := by
  have htop : (d.top + 7) % 8 < 8 := Nat.mod_lt _ (by decide)
  have hlen : ∀ r : List Obs, (turnOver r).map Obs.pt = r.map Obs.pt := turnOver_pt
  unfold Device.file
  dsimp only
  split_ifs with hout hthree
  · exact ⟨_, _, _, _, rfl, rfl, hlen _, htop, by decide⟩
  · exact ⟨_, _, _, _, rfl, rfl, rfl, htop, by omega⟩
  · exact ⟨_, _, _, _, rfl, rfl, rfl, htop, by decide⟩

/-- The estimates of a device lie in their range and come from VALID entries (R128). -/
theorem Device.estimated_drift (d : Device) :
    (∀ v ∈ d.estimated.driftEst, |v| ≤ 2000000) ∧ (d.estimated.driftEst.isSome = true → d.newestValid.isSome = true) := by
  have hdrift : ∀ v, d.estimated.driftEst = some v → |v| ≤ 2000000 ∧ d.newestValid.isSome = true := by
    intro v hv
    obtain ⟨new, hnew, hv⟩ := Option.bind_eq_some_iff.mp hv
    obtain ⟨old, -, hv⟩ := Option.bind_eq_some_iff.mp hv
    unfold Device.driftOf at hv
    split_ifs at hv
    cases hv
    refine ⟨?_, by rw [hnew]; rfl⟩
    rw [clampInt_eq (by omega), abs_le]; omega
  exact ⟨fun v hv => (hdrift v hv).1, fun hs => by obtain ⟨v, hv⟩ := Option.isSome_iff_exists.mp hs; exact (hdrift v hv).2⟩

/-- The state that a report decides (R129). -/
theorem Device.judged_listens (d : Device) : d.judged.listens = true ∧ d.judged ≠ .unseen ∧ d.judged ≠ .rejamPending := by
  unfold Device.judged
  split
  · exact ⟨rfl, by decide, by decide⟩
  · split_ifs
    · exact ⟨rfl, by decide, by decide⟩
    · exact ⟨rfl, by decide, by decide⟩

/-- A report filed keeps a device's laws, the instant later than the newest held and no re-jam pending (R126 to R130). -/
theorem Device.Laws.observed (h : d.Laws) {t : Int} (count : Nat) (offset : Int) (source : Option Nat) (hst : d.state ≠ .rejamPending)
    (ht : ∀ o ∈ d.ring.head?, o.pt < t) : (d.observed t count offset source).1.Laws := by
  obtain ⟨o, ring, top, outliers, heq, ho, hring, htop, hout⟩ := d.file_spec t count offset source
  obtain ⟨hlistens, hunseen, hpending⟩ := Device.judged_listens (d.file t count offset source).1.estimated
  obtain ⟨hdrift, hvalid⟩ := Device.estimated_drift (d.file t count offset source).1
  have hcue : d.cue = none := by rw [← Option.not_isSome_iff_eq_none, h.cue]; exact hst
  have hlen : ring.length = ((o :: d.ring).take 8).length := by simpa using congrArg List.length hring
  have hne : ring ≠ [] := by rintro rfl; simp at hlen
  have horder : ((o :: d.ring).map Obs.pt).Pairwise (· > ·) := by
    rw [List.map_cons, List.pairwise_cons]
    refine ⟨fun v hv => ?_, h.order⟩
    rw [ho]
    cases hr : d.ring with
    | nil => rw [hr] at hv; cases hv
    | cons b rest =>
      have hb := ht b (by rw [hr]; rfl)
      have hsorted := h.order
      rw [hr, List.map_cons, List.pairwise_cons] at hsorted
      rw [hr, List.map_cons] at hv
      rcases List.mem_cons.mp hv with rfl | hv
      · exact hb
      · exact lt_trans (hsorted.1 v hv) hb
  unfold Device.observed
  dsimp only
  generalize hj : (d.file t count offset source).1.estimated.judged = st at hlistens hunseen hpending ⊢
  rw [heq] at hdrift hvalid ⊢
  exact {
    settings := h.settings
    length := by change ring.length ≤ 8; rw [hlen]; simp
    top := htop
    order := by
      change (ring.map Obs.pt).Pairwise (· > ·)
      rw [hring]
      exact horder.sublist ((List.take_sublist _ _).map _)
    offset := rfl
    drift := hdrift
    valid := hvalid
    outliers := hout
    cue := by
      change d.cue.isSome = true ↔ st = .rejamPending
      rw [hcue]; simp [hpending]
    silence := by change true = true ↔ st.listens = true; simp [hlistens]
    unseen := fun hc => absurd hc hunseen
    ringless := fun hr => absurd hr hne
    left := fun n hn => by cases hn; exact le_refl _ }

/-- What a report filed keeps of a device. -/
theorem Device.observed_keeps (d : Device) (t : Int) (count : Nat) (offset : Int) (source : Option Nat) :
    (d.observed t count offset source).1.lane = d.lane ∧ (d.observed t count offset source).1.input = d.input
      ∧ (d.observed t count offset source).1.cue = d.cue ∧ (d.observed t count offset source).1.rejam = d.rejam := by
  obtain ⟨o, ring, top, outliers, heq, -⟩ := d.file_spec t count offset source
  unfold Device.observed
  dsimp only
  generalize (d.file t count offset source).1.estimated.judged = st
  rw [heq]
  exact ⟨rfl, rfl, rfl, rfl⟩

end

/-! ### Devices written -/

/-- The mark inputs that devices name are distinct exactly where no two slots name the same (R118). -/
theorem inputs_nodup_iff {b : Bank (Option Device) 32} :
    (b.list.filterMap fun d => d.bind Device.input).Nodup
      ↔ ∀ i j k, (b.get i none).bind Device.input = some k → (b.get j none).bind Device.input = some k → i = j := by
  have hget : ∀ i (hi : i < b.list.length), b.list[i] = b.get i none := fun i hi => by
    simp [Bank.get, List.getD_eq_getElem?_getD, hi]
  have hlt : ∀ i k, (b.get i none).bind Device.input = some k → i < b.list.length := fun i k hk => by
    by_contra hi
    rw [b.size] at hi
    rw [Bank.get_out _ (by omega)] at hk; cases hk
  rw [List.Nodup, List.pairwise_filterMap, List.pairwise_iff_getElem]
  constructor
  · intro h i j k hi hj
    rcases lt_trichotomy i j with hij | hij | hij
    · exact absurd rfl (h i j (hlt i k hi) (hlt j k hj) hij k (by rw [hget]; exact hi) k (by rw [hget]; exact hj))
    · exact hij
    · exact absurd rfl (h j i (hlt j k hj) (hlt i k hi) hij k (by rw [hget]; exact hj) k (by rw [hget]; exact hi))
  · intro h i j hi hj hij k hk m hm hkm
    subst hkm
    rw [hget] at hk hm
    have := h i j k hk hm
    omega

section
variable {s : State} {n : Nat} {d : Device}

/-- The device of a lawful state, the lane it names, and its ring while the time is UNSET. -/
theorem State.LawsApart.device_ok (h : s.LawsApart) (hd : s.device n = some d) :
    d.Laws ∧ (s.lane d.lane).state ≠ .free ∧ (s.tb.set = false → d.ring = []) := by
  have hmem : some d ∈ s.devices.list := hd ▸ Bank.get_mem _ (State.device_lt hd) _
  exact ⟨(Device.ok_iff_laws d).mp (h.devices.1 _ hmem d rfl), h.names.1 _ hmem d rfl, fun hu => (h.unset hu).2.2.1 _ hmem d rfl⟩

/-- A device slot written with a record that holds together keeps every law but that of the owners. -/
theorem State.LawsApart.deviceWritten (h : s.LawsApart) (hn : n < 32) {x : Option Device}
    (hx : ∀ e ∈ x, e.Laws ∧ (s.lane e.lane).state ≠ .free ∧ (s.tb.set = false → e.ring = []))
    (hin : ∀ e ∈ x, ∀ k, e.input = some k → ∀ j, (s.device j).bind Device.input = some k → j = n) : (s.setDevice n x).LawsApart :=
  { h with
    names := ⟨fun y hy e he => by
      rcases Bank.mem_put hy with rfl | hy
      · exact (hx e he).2.1
      · exact h.names.1 y hy e he, h.names.2⟩
    devices := by
      refine ⟨fun y hy e he => ?_, ?_⟩
      · rcases Bank.mem_put hy with rfl | hy
        · exact (Device.ok_iff_laws e).mpr (hx e he).1
        · exact h.devices.1 y hy e he
      · rw [inputs_nodup_iff]
        intro i j k hi hj
        have hold := inputs_nodup_iff.mp h.devices.2
        by_cases hin' : i = n <;> by_cases hjn : j = n
        · rw [hin', hjn]
        · rw [hin', State.setDevice_devices, Bank.get_put_same _ hn] at hi
          rw [State.setDevice_devices, Bank.get_put_ne _ (Ne.symm hjn)] at hj
          obtain ⟨e, he, hek⟩ := Option.bind_eq_some_iff.mp hi
          exact absurd (hin e he k hek j hj) hjn
        · rw [hjn, State.setDevice_devices, Bank.get_put_same _ hn] at hj
          rw [State.setDevice_devices, Bank.get_put_ne _ (Ne.symm hin')] at hi
          obtain ⟨e, he, hek⟩ := Option.bind_eq_some_iff.mp hj
          exact absurd (hin e he k hek i hi) hin'
        · rw [State.setDevice_devices, Bank.get_put_ne _ (Ne.symm hin')] at hi
          rw [State.setDevice_devices, Bank.get_put_ne _ (Ne.symm hjn)] at hj
          exact hold i j k hi hj
    unset := fun hu => by
      obtain ⟨h1, h2, h3, h4⟩ := h.unset hu
      refine ⟨h1, h2, fun y hy e he => ?_, h4⟩
      rcases Bank.mem_put hy with rfl | hy
      · exact (hx e he).2.2 hu
      · exact h3 y hy e he }

/-- A device written anew with its lane and input keeps every law but that of the owners. -/
theorem State.LawsApart.deviceChanged (h : s.LawsApart) (hd : s.device n = some d) {e : Device} (he : e.Laws) (hlane : e.lane = d.lane)
    (hinput : e.input = d.input) (hring : s.tb.set = false → e.ring = []) : (s.setDevice n (some e)).LawsApart := by
  refine h.deviceWritten (State.device_lt hd) (fun y hy => ?_) fun y hy k hk j hj => ?_
  · cases hy
    exact ⟨he, hlane ▸ (h.device_ok hd).2.1, hring⟩
  · cases hy
    exact (inputs_nodup_iff.mp h.devices.2) j n k hj (by rw [show s.devices.get n none = some d from hd, Option.bind_some, ← hinput]; exact hk)

/-- The owners after a device has been written that keeps its cue. -/
theorem State.ownersOk_setDevice (h : s.ownersOk) (hd : s.device n = some d) {e : Device} (hcue : e.cue = d.cue) :
    (s.setDevice n (some e)).ownersOk := by
  have hn := State.device_lt hd
  refine ⟨fun m hm f hf i hi => ?_, fun i hi c hc m hm => ?_⟩
  · by_cases hmn : m = n
    · subst hmn
      rw [State.device_setDevice_same hn] at hf
      cases hf
      exact h.1 m hm d hd i (hcue ▸ hi)
    · rw [State.device_setDevice_ne hmn] at hf
      exact h.1 m hm f hf i hi
  · have hold := h.2 i hi c hc m hm
    by_cases hmn : m = n
    · subst hmn
      rw [State.device_setDevice_same hn]
      rw [hd] at hold
      simpa [hcue] using hold
    · rw [State.device_setDevice_ne hmn]; exact hold

/-- A device written anew with its lane, input and cue keeps every law. -/
theorem State.Laws.deviceChanged (h : s.Laws) (hd : s.device n = some d) {e : Device} (he : e.Laws) (hlane : e.lane = d.lane)
    (hinput : e.input = d.input) (hcue : e.cue = d.cue) (hring : s.tb.set = false → e.ring = []) : (s.setDevice n (some e)).Laws :=
  { h.toLawsApart.deviceChanged hd he hlane hinput hring with owners := State.ownersOk_setDevice h.owners hd hcue }

/-- What a device and its cue are to each other (R132, R156). -/
theorem State.Laws.owned (h : s.Laws) {slot : Nat} : (∀ d, s.device n = some d → d.cue = some slot → ∃ c, s.cue slot = some c ∧ c.owner = some n)
    ∧ ∀ c, s.cue slot = some c → c.owner = some n → ∃ d, s.device n = some d ∧ d.cue = some slot := by
  refine ⟨fun d hd hcue => ?_, fun c hc hown => ?_⟩
  · obtain ⟨c, hc, hn⟩ := (Option.any_eq_true _ _).mp (h.owners.1 n (List.mem_range.mpr (State.device_lt hd)) d hd slot hcue)
    exact ⟨c, hc, of_decide_eq_true hn⟩
  · obtain ⟨d, hd, hs⟩ := (Option.any_eq_true _ _).mp (h.owners.2 slot (List.mem_range.mpr (State.cue_lt hc)) c hc n hown)
    exact ⟨d, hd, of_decide_eq_true hs⟩

/-- The owners after a slot has been made FREE and the device that owned it told (R134). -/
theorem State.Laws.owners_gone (h : s.Laws) {slot : Nat} {c : Cue} (hc : s.cue slot = some c) (hown : c.owner = some n) {dues : List Nat}
    {lines : Bank Line 8} {x : Option Device} (hx : ∀ e ∈ x, e.cue = none) :
    ((s.scheduled (s.cues.put slot none) dues lines).setDevice n x).ownersOk := by
  have hslot := State.cue_lt hc
  obtain ⟨d, hd, hdc⟩ := h.owned.2 c hc hown
  have hn := State.device_lt hd
  have hcue : ∀ {i}, i ≠ slot → ((s.scheduled (s.cues.put slot none) dues lines).setDevice n x).cue i = s.cue i :=
    fun hi => Bank.get_put_ne _ (Ne.symm hi) _ _
  have hslotted : ((s.scheduled (s.cues.put slot none) dues lines).setDevice n x).cue slot = none := Bank.get_put_same _ hslot _ _
  have hdevice : ∀ {m}, m ≠ n → ((s.scheduled (s.cues.put slot none) dues lines).setDevice n x).device m = s.device m :=
    fun hm => Bank.get_put_ne _ (Ne.symm hm) _ _
  refine ⟨fun m hm f hf i hi => ?_, fun i hi e he m hm => ?_⟩
  · by_cases hmn : m = n
    · subst hmn
      rw [State.device_setDevice_same hn] at hf
      rw [hx f hf] at hi; cases hi
    · rw [hdevice hmn] at hf
      have hne : i ≠ slot := by
        rintro rfl
        obtain ⟨c', hc', hown'⟩ := h.owned.1 f hf hi
        rw [hc] at hc'; cases hc'
        rw [hown] at hown'; cases hown'
        exact hmn rfl
      rw [hcue hne]
      exact h.owners.1 m hm f hf i hi
  · have hne : i ≠ slot := by rintro rfl; rw [hslotted] at he; cases he
    rw [hcue hne] at he
    have hmn : m ≠ n := by
      rintro rfl
      obtain ⟨f, hf, hfc⟩ := h.owned.2 e he hm
      rw [hd] at hf; cases hf
      rw [hdc] at hfc; cases hfc
      exact hne rfl
    rw [hdevice hmn]
    exact h.owners.2 i hi e he m hm

/-- A slot made FREE keeps every law but that of the owners (R152, R157). -/
theorem State.LawsApart.slotFreed (h : s.LawsApart) {u : State} (hu : Noted s u) {slot : Nat} {c : Cue} (hc : s.cue slot = some c) :
    (u.scheduled (s.cues.put slot none) (s.dues.filter (· ≠ slot)) (releaseLine slot c.line s).lines).LawsApart :=
  h.slotWritten hc hu (Or.inl ⟨rfl, fun y hy => by cases hy⟩) (held_releaseLine h.lines hc none) (fun y hy => by cases hy)
    fun hun => ⟨by rw [(h.unset hun).2.2.2.1]; rfl, fun y hy => by cases hy⟩

/-- A slot made FREE, with the device that owned it told, keeps every law (R134). -/
theorem State.Laws.slotGone (h : s.Laws) {u : State} (hu : Noted s u) {slot : Nat} {c : Cue} (hc : s.cue slot = some c) (completed : Bool) :
    (reportGone c.owner completed
      (u.scheduled (s.cues.put slot none) (s.dues.filter (· ≠ slot)) (releaseLine slot c.line s).lines)).Laws := by
  have hapart := h.toLawsApart.slotFreed hu hc
  cases hown : c.owner with
  | none =>
    exact h.slotWritten hc hu (Or.inl ⟨rfl, fun y hy => by cases hy⟩) (held_releaseLine h.lines hc none) (fun y hy => by cases hy)
      (fun _ => hown) fun hun => ⟨by rw [(h.unset hun).2.2.2.1]; rfl, fun y hy => by cases hy⟩
  | some n =>
    obtain ⟨d, hd, -⟩ := h.owned.2 c hc hown
    obtain ⟨hcues, hdues, hlines, hdevices, htb, -⟩ := hu.keeps
    have hud : u.device n = some d := by rw [State.device, hdevices]; exact hd
    have huc : u.cue slot = some c := by rw [State.cue, hcues]; exact hc
    have hdev : (u.scheduled (s.cues.put slot none) (s.dues.filter (· ≠ slot)) (releaseLine slot c.line s).lines).device n = some d := hud
    obtain ⟨hlane, hinput, hcue, hring⟩ := d.cueGone_keeps completed
    have hlaws := (h.device_ok hd).1
    rw [reportGone, deviceCueGone_eq hdev]
    refine State.Laws.raisedIf (s := (u.scheduled (s.cues.put slot none) (s.dues.filter (· ≠ slot)) (releaseLine slot c.line s).lines).setDevice n _)
      { hapart.deviceChanged hdev (hlaws.cueGone completed) hlane hinput (fun hun => hring ((h.device_ok hd).2.2 (htb ▸ hun))) with owners := ?_ } _ _
    have := (hu.laws h).owners_gone huc hown (dues := s.dues.filter (· ≠ slot)) (lines := (releaseLine slot c.line s).lines)
      (x := some (d.cueGone completed)) (fun e he => by cases he; exact hcue)
    rwa [hcues] at this

/-- A cue dropped keeps every law (R152, R155). -/
theorem State.Laws.dropped (h : s.Laws) (slot : Nat) : (dropCue slot s).Laws := by
  cases hc : s.cue slot with
  | none => rw [dropCue, hc]; exact h
  | some c =>
    rw [dropCue, hc]
    dsimp only
    rw [freeSlot_scheduled hc]
    exact h.slotGone (Noted.refl.raise .cueDropped) hc false

/-- A cue cancelled keeps every law (R157). -/
theorem State.Laws.cancelled (h : s.Laws) {slot : Nat} {c : Cue} (hc : s.cue slot = some c) : (reportGone c.owner false (freeSlot slot s)).Laws := by
  rw [freeSlot_scheduled hc]
  exact h.slotGone Noted.refl hc false

/-- A late cue handled keeps every law, the time SET (R152). -/
theorem State.Laws.late (h : s.Laws) (hset : s.tb.set = true) (slot : Nat) : (lateCue slot s).Laws := by
  unfold lateCue
  split
  · exact h
  · split_ifs
    · exact h.dropped slot
    · exact (h.raised .cueLate).fired hset slot

/-- A due set for a cue of the slot, the anchor and the owner kept, keeps every law (R145, R152). -/
theorem State.Laws.dueSet (h : s.Laws) {u : State} (hu : Noted s u) (hset : s.tb.set = true) {slot : Nat} {c : Cue} (hc : s.cue slot = some c) {e : Cue}
    (due : Nat) (he : e.ok) (hlisted : e.listed = true) (hpulse : c.state = .pulsing → e.state = .pulsing) (hline : e.line = c.line)
    (hanchor : e.anchor = c.anchor) (hown : e.owner = c.owner) : (setDue slot e due u).Laws := by
  obtain ⟨hcues, hdues, hlines, -, htb, -⟩ := hu.keeps
  have hentered : (enterDues slot e due u).Laws := by
    have hdueOf : u.dueOf = s.dueOf := by funext j; rw [State.dueOf, State.dueOf, State.cue, State.cue, hcues]
    rw [enterDues_scheduled, hcues, hdues, hlines, hdueOf]
    exact h.slotWritten hc hu (Or.inr ⟨_, due, rfl, hlisted, rfl, rfl⟩) (held_of_pulsing h.lines hc fun hp => ⟨hpulse hp, hline⟩)
      (fun y hy => by cases hy; exact ⟨he, hanchor, hown⟩) (fun hx => by cases hx) fun hn => absurd (hset.symm.trans hn) (by decide)
  unfold setDue
  dsimp only
  split_ifs
  · exact hentered.late (by rw [(enterDues_touch u slot e due).keeps.2.2.2.1, htb]; exact hset) slot
  · exact hentered

/-- A due set for a slot that has left the list is set all the same. -/
theorem setDue_leaveDues (s : State) (slot : Nat) (c : Cue) (due : Nat) : setDue slot c due (leaveDues slot s) = setDue slot c due s := by
  rw [setDue, setDue, enterDues_leaveDues]

/-- A slot that has left the list is dropped all the same. -/
theorem dropCue_leaveDues {slot : Nat} {c : Cue} (hc : s.cue slot = some c) : dropCue slot (leaveDues slot s) = dropCue slot s := by
  have hc' : (leaveDues slot s).cue slot = some c := hc
  have hfilter : (leaveDues slot s).dues.filter (· ≠ slot) = s.dues.filter (· ≠ slot) := by rw [leaveDues, State.setDues]; simp
  have hfree : freeSlot slot (leaveDues slot s) = freeSlot slot s := by
    rw [freeSlot_scheduled hc, freeSlot_scheduled hc', hfilter, releaseLine_eq, releaseLine_eq]
    cases c.line with
    | none => rfl
    | some j =>
      dsimp only
      rw [show (leaveDues slot s).line j = s.line j from rfl]
      split_ifs <;> rfl
  rw [dropCue, dropCue, hc, hc']
  dsimp only
  rw [hfree]

/-- A cue found again: its new due set, or the cue dropped, after what is noted (R155). -/
theorem recomputeCue_eq {slot : Nat} {c : Cue} (hc : s.cue slot = some c) :
    (∀ m f, s.dueAgainst c.anchor c.current s.tb.pt = .done m f →
        recomputeCue slot s
          = setDue slot { c with state := if c.state = .suspended then .waiting else c.state, current := f.current } f.due
              (stickOpt c.anchor.lane? m s))
      ∧ (∀ m k, s.dueAgainst c.anchor c.current s.tb.pt = .stopped m k → recomputeCue slot s = dropCue slot (stickOpt c.anchor.lane? m s)) := by
  have hdue : (leaveDues slot s).dueAgainst c.anchor c.current (leaveDues slot s).tb.pt = s.dueAgainst c.anchor c.current s.tb.pt := rfl
  have hnoted : ∀ m, stickOpt c.anchor.lane? m (leaveDues slot s) = leaveDues slot (stickOpt c.anchor.lane? m s) := fun m => by
    obtain ⟨hcues, hdues, hlines, -⟩ := (Noted.refl.stickOpt c.anchor.lane? m : Noted s _).keeps
    have hleft : ∀ u : State, leaveDues slot u = u.scheduled u.cues (u.dues.filter (· ≠ slot)) u.lines := fun _ => rfl
    rw [hleft, hleft, stickOpt_scheduled, hcues, hdues, hlines]
  rw [recomputeCue, hc]
  simp only [hdue, hnoted]
  refine ⟨fun m f hf => ?_, fun m k hk => ?_⟩
  · simp only [hf, Conv.met, setDue_leaveDues]
  · simp only [hk, Conv.met]
    refine dropCue_leaveDues (c := c) ?_
    rw [State.cue, ((Noted.refl.stickOpt c.anchor.lane? m : Noted s _).keeps).1]; exact hc

/-- A recomputed cue that is listed or SUSPENDED keeps every law, the time SET (R155). -/
theorem State.Laws.recomputed (h : s.Laws) (hset : s.tb.set = true) {slot : Nat} (hc : ∀ c ∈ s.cue slot, c.state = .suspended ∨ c.listed = true) :
    (recomputeCue slot s).Laws := by
  cases hcs : s.cue slot with
  | none => rw [recomputeCue, hcs]; exact h
  | some c =>
    obtain ⟨hdone, hstop⟩ := recomputeCue_eq hcs
    cases hn : s.dueAgainst c.anchor c.current s.tb.pt with
    | stopped m k => rw [hstop m k hn]; exact ((Noted.refl.stickOpt _ _).laws h).dropped slot
    | done m f =>
      rw [hdone m f hn]
      obtain ⟨h1, h2, h3, h4, h5, hst, h7⟩ := (h.cue_ok hcs).1
      refine h.dueSet (Noted.refl.stickOpt _ _) hset hcs f.due ⟨h1, h2, h3, h4, h5, fun hnp => ?_, h7⟩ ?_ (fun hp => by simp [hp]) rfl rfl rfl
      · refine hst fun hp => hnp ?_
        simp [hp]
      · rcases hc c hcs with hs | hl
        · simp [Cue.listed, hs]
        · have hns : c.state ≠ .suspended := fun hs => by simp [Cue.listed, hs] at hl
          simpa [Cue.listed, if_neg hns, Cue.further] using hl

/-- A SUSPENDED cue starts keeping every law, the time SET (R153). -/
theorem State.Laws.absoluteStarted (h : s.Laws) (hset : s.tb.set = true) {slot : Nat} (hc : ∀ c ∈ s.cue slot, c.state = .suspended) :
    (startAbsolute slot s).Laws := by
  unfold startAbsolute
  split
  · exact h
  · next c hcs =>
    split
    · obtain ⟨h1, h2, h3, h4, h5, hst, h7⟩ := (h.cue_ok hcs).1
      have hns : c.state = .suspended := hc c hcs
      exact h.dueSet Noted.refl hset hcs _ ⟨h1, h2, h3, h4, h5, fun _ => hst (by rw [hns]; decide), h7⟩ rfl
        (fun hp => absurd (hns.symm.trans hp) (by decide)) rfl rfl rfl
    · exact h

/-- A suspended cue (R154). -/
theorem suspendCue_eq {slot : Nat} {c : Cue} (hc : s.cue slot = some c) (hgo : ¬ (c.state = .suspended ∨ c.state = .pulsing ∧ ¬ c.further = true)) :
    suspendCue slot s
      = s.scheduled (s.cues.put slot (some { c with state := .suspended, due := none, remaining := 0 })) (s.dues.filter (· ≠ slot))
          (if c.state = .pulsing then releaseLine slot c.line s else s).lines := by
  rw [suspendCue, hc]
  simp only [if_neg hgo, releaseLine_eq]
  split_ifs
  · cases c.line with
    | none => rfl
    | some j =>
      dsimp only
      rw [show (leaveDues slot s).line j = s.line j from rfl]
      split_ifs <;> rfl
  · rfl

/-- The suspension of a cue keeps every law (R154). -/
theorem State.Laws.suspended (h : s.Laws) (slot : Nat) : (suspendCue slot s).Laws := by
  cases hc : s.cue slot with
  | none => rw [suspendCue, hc]; exact h
  | some c =>
    by_cases hgo : c.state = .suspended ∨ c.state = .pulsing ∧ ¬ c.further = true
    · rw [suspendCue, hc]; simp only [if_pos hgo]; exact h
    · rw [suspendCue_eq hc hgo]
      obtain ⟨h1, h2, h3, h4, h5, hst, h7⟩ := (h.cue_ok hc).1
      have hfurther : c.further = true := by
        by_cases hp : c.state = .pulsing
        · by_contra hf; exact hgo (Or.inr ⟨hp, hf⟩)
        · exact (hst hp).1
      refine h.slotWritten hc Noted.refl (Or.inl ⟨rfl, fun y hy => by cases hy; exact ⟨rfl, rfl⟩⟩) ?_
        (fun y hy => by cases hy; exact ⟨⟨h1, h2, h3, h4, h5, fun _ => ⟨hfurther, rfl⟩, h7⟩, rfl, rfl⟩) (fun hx => by cases hx)
        fun hun => ⟨by rw [(h.unset hun).2.2.2.1]; rfl, fun y hy => by cases hy; rfl⟩
      split_ifs with hp
      · exact held_releaseLine h.lines hc _
      · exact held_of_not_pulsing h.lines (fun y hy => by rw [hc] at hy; cases hy; exact hp) _

/-- A cue written in its place in the due list, with the due, the anchor, the owner and the listing it had, keeps every law. -/
theorem State.Laws.cueKept (h : s.Laws) {slot : Nat} {c : Cue} (hc : s.cue slot = some c) {e : Cue} {lines : Bank Line 8} (he : e.ok)
    (hl : s.Held slot (some e) lines) (hdue : e.due = c.due) (hlisted : e.listed = c.listed) (hanchor : e.anchor = c.anchor) (hown : e.owner = c.owner)
    (hun : s.tb.set = false → e.state = .suspended) : (s.scheduled (s.cues.put slot (some e)) s.dues lines).Laws := by
  have hslot := State.cue_lt hc
  have hne : ∀ {j}, j ≠ slot → (s.scheduled (s.cues.put slot (some e)) s.dues lines).cue j = s.cue j := fun hj => Bank.get_put_ne _ hj.symm _ _
  have hslotted : (s.scheduled (s.cues.put slot (some e)) s.dues lines).cue slot = some e := Bank.get_put_same _ hslot _ _
  exact { h with
    names := ⟨h.names.1, fun d hd x hx => by
      rcases Bank.mem_put hd with rfl | hd
      · cases hx; exact hanchor ▸ (h.cue_ok hc).2.1
      · exact h.names.2.1 d hd x hx, h.names.2.2⟩
    dues := by
      obtain ⟨hnodup, hsorted, hall, hin⟩ := h.dues
      have hdueOf : ∀ j, (s.scheduled (s.cues.put slot (some e)) s.dues lines).dueOf j = s.dueOf j := fun j => by
        by_cases hj : j = slot
        · subst hj; rw [State.dueOf, hslotted, State.dueOf, hc, Option.bind_some, Option.bind_some, hdue]
        · rw [State.dueOf, hne hj]; rfl
      refine ⟨hnodup, (List.map_congr_left fun j _ => hdueOf j) ▸ hsorted, fun i hi => ?_, fun i hi x hx => ?_⟩
      · by_cases hj : i = slot
        · subst hj
          have hold := hall i hi
          rw [hc] at hold
          rw [hslotted, Option.any_some, hlisted]; exact hold
        · rw [hne hj]; exact hall i hi
      · by_cases hj : i = slot
        · subst hj
          rw [hslotted] at hx; cases hx
          rw [hdue, hlisted]; exact hin i hi c hc
        · rw [hne hj] at hx; exact hin i hi x hx
    lines := State.linesOk_scheduled h.lines hslot hl
    cues := fun d hd x hx => by
      rcases Bank.mem_put hd with rfl | hd
      · cases hx; exact he
      · exact h.cues d hd x hx
    owners := State.ownersOk_scheduled h.owners hslot fun n => by rw [hc]; simp [hown]
    unset := fun hset => by
      obtain ⟨h1, h2, h3, h4, h5⟩ := h.unset hset
      refine ⟨h1, h2, h3, h4, fun d hd x hx => ?_⟩
      rcases Bank.mem_put hd with rfl | hd
      · cases hx; exact hun hset
      · exact h5 d hd x hx }

/-- The end of a pulse that has run out keeps every law (R149). -/
theorem State.Laws.pulseEnded (h : s.Laws) {slot : Nat} (ho : ∀ c ∈ s.cue slot, c.state = .pulsing ∧ c.remaining = 0) : (endPulse slot s).Laws := by
  cases hc : s.cue slot with
  | none => rw [endPulse, hc]; exact h
  | some c =>
    obtain ⟨hst, hrem⟩ := ho c hc
    obtain ⟨h1, h2, h3, h4, h5, -, h7⟩ := (h.cue_ok hc).1
    have hset : s.tb.set ≠ false := fun hu => absurd (((h.cue_ok hc).2.2 hu).symm.trans hst) (by decide)
    rw [endPulse, hc]
    dsimp only
    rw [releaseLine_scheduled]
    by_cases hf : c.further = true
    · rw [if_pos hf]
      refine h.cueKept hc ⟨h1, h2, h3, h4, h5, fun _ => ⟨hf, hrem⟩, h7⟩ (held_releaseLine h.lines hc _) rfl ?_ rfl rfl fun hu => absurd hu hset
      simp [Cue.listed, hst, hf]
    · rw [if_neg hf]
      have hout : slot ∉ s.dues := fun hin => by
        have := h.dues.2.2.1 slot hin
        rw [hc] at this
        simp [Cue.listed, hst, hf] at this
      have hfilter : s.dues.filter (· ≠ slot) = s.dues := List.filter_eq_self.mpr fun j hj => by
        simpa using fun hjs : j = slot => hout (hjs ▸ hj)
      have := h.slotGone Noted.refl hc true
      rwa [hfilter] at this

/-- A block staged for a cue keeps every law (R158). -/
theorem State.Laws.staged (h : s.Laws) {slot : Nat} {c : Cue} (hc : s.cue slot = some c) (hown : c.owner = none) {b : Staged}
    (hb : 54 ≤ b.width ∧ b.width ≤ 54000000 ∧ (b.action ≠ .none → c.line.isSome = true)) : (s.setCue slot (some { c with staged := some b })).Laws := by
  obtain ⟨h1, h2, h3, h4, h5, h6, -, h8, -⟩ := (h.cue_ok hc).1
  exact h.cueKept hc (e := { c with staged := some b }) (lines := s.lines)
    ⟨h1, h2, h3, h4, h5, h6, fun y hy => by cases hy; exact hb, h8, fun ho => by rw [hown] at ho; cases ho⟩
    (held_of_pulsing h.lines hc fun hp => ⟨hp, rfl⟩) rfl rfl rfl rfl fun hu => (h.cue_ok hc).2.2 hu

/-- An output line written keeps every law where it gains no holder (R150). -/
theorem State.Laws.lineWritten (h : s.Laws) (j : Nat) {l : Line} (hl : ∀ i ∈ l.holder, (s.line j).holder = some i) : (s.setLine j l).Laws :=
  { h with
    lines := fun k hk i hi => by
      by_cases hkj : k = j
      · subst hkj
        rw [State.line, State.setLine, Bank.get_put_same _ (List.mem_range.mp hk)] at hi
        exact h.lines k hk i (hl i hi)
      · rw [State.line, State.setLine, Bank.get_put_ne _ (Ne.symm hkj)] at hi
        exact h.lines k hk i hi }

end

end Sys2Proof.Machine
end

section
/-! The lanes (Chapter 5): what each operation on a lane record keeps of its laws, the slots that an operation on one slot leaves alone, and what
boundaries, holds, jams and the announcements of moves of PT keep of the laws. -/

namespace Sys2Proof.Machine

/-! ### One slot and the others -/

section
variable {s : State} {slot j : Nat}

theorem cue_scheduled_ne (u : State) (hj : j ≠ slot) (c : Option Cue) (dues : List Nat) (lines : Bank Line 8) :
    (u.scheduled (s.cues.put slot c) dues lines).cue j = s.cue j := Bank.get_put_ne _ hj.symm _ _

theorem reportGone_cues (owner : Option Nat) (completed : Bool) (s : State) : (reportGone owner completed s).cues = s.cues := by
  unfold reportGone
  cases owner with
  | none => rfl
  | some n =>
    dsimp only
    unfold deviceCueGone
    split
    · rfl
    · rw [raiseIf_cues]; rfl

theorem cue_dropCue_ne (hj : j ≠ slot) : (dropCue slot s).cue j = s.cue j := by
  cases hc : s.cue slot with
  | none => rw [dropCue, hc]
  | some c =>
    rw [dropCue, hc]
    dsimp only
    rw [freeSlot_scheduled hc, State.cue, reportGone_cues]
    exact Bank.get_put_ne _ hj.symm _ _

theorem cue_fireCue_ne (hj : j ≠ slot) : (fireCue slot s).cue j = s.cue j := by
  cases hc : s.cue slot with
  | none => rw [fireCue, hc]
  | some c =>
    cases hf : c.fired.further with
    | false => rw [fireCue_last hc hf]; exact cue_scheduled_ne _ hj _ _ _
    | true =>
      obtain ⟨hnext, hend, hstop⟩ := fireCue_more hc hf
      cases hn : (s.seriesAfter c).next with
      | stopped m k => rw [hstop m k hn]; exact cue_scheduled_ne _ hj _ _ _
      | done m nd =>
        cases nd with
        | none => rw [hend m hn]; exact cue_scheduled_ne _ hj _ _ _
        | some n => rw [hnext m n hn]; exact cue_scheduled_ne _ hj _ _ _

theorem cue_lateCue_ne (hj : j ≠ slot) : (lateCue slot s).cue j = s.cue j := by
  unfold lateCue
  split
  · rfl
  · split_ifs
    · exact cue_dropCue_ne hj
    · exact cue_fireCue_ne hj

theorem cue_setDue_ne (hj : j ≠ slot) (c : Cue) (due : Nat) : (setDue slot c due s).cue j = s.cue j := by
  have hentered : (enterDues slot c due s).cue j = s.cue j := cue_scheduled_ne s hj _ _ _
  unfold setDue
  dsimp only
  split_ifs
  · rw [cue_lateCue_ne hj, hentered]
  · exact hentered

theorem stickOpt_cue (i : Option Nat) (m : Conds) (s : State) (j : Nat) : (stickOpt i m s).cue j = s.cue j := by
  rw [State.cue, ((Noted.refl.stickOpt i m : Noted s _).keeps).1]; rfl

theorem cue_recomputeCue_ne (hj : j ≠ slot) : (recomputeCue slot s).cue j = s.cue j := by
  cases hc : s.cue slot with
  | none => rw [recomputeCue, hc]
  | some c =>
    obtain ⟨hdone, hstop⟩ := recomputeCue_eq hc
    cases hn : s.dueAgainst c.anchor c.current s.tb.pt with
    | stopped m k => rw [hstop m k hn, cue_dropCue_ne hj, stickOpt_cue]
    | done m f => rw [hdone m f hn, cue_setDue_ne hj, stickOpt_cue]

theorem cue_startAbsolute_ne (hj : j ≠ slot) : (startAbsolute slot s).cue j = s.cue j := by
  unfold startAbsolute
  split
  · rfl
  · split
    · exact cue_setDue_ne hj _ _
    · rfl

theorem cue_suspendCue_ne (hj : j ≠ slot) : (suspendCue slot s).cue j = s.cue j := by
  cases hc : s.cue slot with
  | none => rw [suspendCue, hc]
  | some c =>
    by_cases hgo : c.state = .suspended ∨ c.state = .pulsing ∧ ¬ c.further = true
    · rw [suspendCue, hc]; simp only [if_pos hgo]
    · rw [suspendCue_eq hc hgo]; exact cue_scheduled_ne s hj _ _ _

/-- Operations on one slot after another: a law that each keeps, where what an operation needs of its slot is left alone by the others. -/
theorem foldl_slots {op : State → Nat → State} {P : State → Prop} {Q : State → Nat → Prop} (hP : ∀ u a, P u → Q u a → P (op u a))
    (hQ : ∀ u a b, b ≠ a → Q u b → Q (op u a) b) {l : List Nat} (hl : l.Nodup) (hs : P s) (hall : ∀ a ∈ l, Q s a) : P (l.foldl op s) := by
  induction l generalizing s with
  | nil => exact hs
  | cons a l ih =>
    rw [List.nodup_cons] at hl
    refine ih hl.2 (hP s a hs (hall a List.mem_cons_self)) fun b hb => hQ s a b ?_ (hall b (List.mem_cons_of_mem a hb))
    rintro rfl
    exact hl.1 hb

end

/-! ### The laws of a run of slots -/

section
variable {s : State}

/-- Late cues handled keep every law, the time SET (R153). -/
theorem State.Laws.lateHandled (h : s.Laws) (hset : s.tb.set = true) : (handleLate s).Laws := by
  refine (foldl_slots (P := fun u => u.Laws ∧ u.tb.set = true) (Q := fun _ _ => True) (fun u a hu _ => ⟨hu.1.late hu.2 a, ?_⟩)
    (fun _ _ _ _ _ => trivial) (h.dues.1.filter _) ⟨h, hset⟩ fun _ _ => trivial).1
  rw [(lateCue_touch u a).keeps.2.2.2.1]; exact hu.2

/-- A step's effect on the cues keeps every law (R153). -/
theorem State.Laws.cuesStepped (h : s.Laws) (a : Int) : (cuesStep a s).Laws := by
  unfold cuesStep
  split_ifs
  · cases hset : s.tb.set with
    | true => exact h.lateHandled hset
    | false => rw [handleLate, (h.unset hset).2.2.2.1]; exact h
  · exact h

/-- The slots of a state that hold a cue with a property, each once. -/
theorem cuesWhere_nodup (s : State) (p : Cue → Bool) : (s.cuesWhere p).Nodup := List.nodup_range.filter _

theorem mem_cuesWhere {s : State} {p : Cue → Bool} {i : Nat} (h : i ∈ s.cuesWhere p) : ∃ c, s.cue i = some c ∧ p c = true :=
  (Option.any_eq_true _ _).mp (List.mem_filter.mp h).2

/-- The first TIME_SET's effect on the cues keeps every law (R153). -/
theorem State.Laws.cuesTimeSetDone (h : s.Laws) (hset : s.tb.set = true) : (cuesTimeSet s).Laws := by
  refine (foldl_slots (P := fun u => u.Laws ∧ u.tb.set = true) (Q := fun u a => ∀ c ∈ u.cue a, c.state = .suspended)
    (fun u a hu ha => ⟨hu.1.absoluteStarted hu.2 ha, ?_⟩) (fun u a b hb hq => ?_) (cuesWhere_nodup s _) ⟨h, hset⟩ fun a ha c hc => ?_).1
  · rw [(startAbsolute_touch u a).keeps.2.2.2.1]; exact hu.2
  · rw [cue_startAbsolute_ne hb]; exact hq
  · obtain ⟨e, he, hp⟩ := mem_cuesWhere ha
    rw [he] at hc; cases hc
    exact of_decide_eq_true (Bool.and_eq_true_iff.mp hp).1

/-- A run of recomputations keeps every law, the time SET (R155). -/
theorem State.Laws.allRecomputed (h : s.Laws) (hset : s.tb.set = true) {l : List Nat} (hl : l.Nodup)
    (hall : ∀ a ∈ l, ∀ c ∈ s.cue a, c.state = .suspended ∨ c.listed = true) : (l.foldl (fun s slot => recomputeCue slot s) s).Laws := by
  refine (foldl_slots (P := fun u => u.Laws ∧ u.tb.set = true) (Q := fun u a => ∀ c ∈ u.cue a, c.state = .suspended ∨ c.listed = true)
    (fun u a hu ha => ⟨hu.1.recomputed hu.2 ha, ?_⟩) (fun u a b hb hq => ?_) hl ⟨h, hset⟩ hall).1
  · rw [(recomputeCue_touch u a).keeps.2.2.2.1]; exact hu.2
  · rw [cue_recomputeCue_ne hb]; exact hq

/-- A cue of the due list is listed. -/
theorem State.LawsApart.listed_of_mem (h : s.LawsApart) {a : Nat} (ha : a ∈ s.dues) : ∃ c, s.cue a = some c ∧ c.listed = true :=
  (Option.any_eq_true _ _).mp (h.dues.2.2.1 a ha)

/-- The cues of a lane to be found again, each once. -/
theorem State.LawsApart.toRecompute_nodup (h : s.LawsApart) (i : Nat) : (s.cuesToRecompute i).Nodup := by
  refine List.Nodup.append (h.dues.1.filter _) (cuesWhere_nodup s _) fun a ha hb => ?_
  obtain ⟨c, hc, hl⟩ := h.listed_of_mem (List.mem_of_mem_filter ha)
  obtain ⟨e, he, hp⟩ := mem_cuesWhere hb
  rw [hc] at he; cases he
  have hs : c.state = .suspended := of_decide_eq_true (Bool.and_eq_true_iff.mp hp).2
  simp [Cue.listed, hs] at hl

/-- A lane's recomputation keeps every law, the time SET (R155). -/
theorem State.Laws.laneRecomputed (h : s.Laws) (hset : s.tb.set = true) (i : Nat) : (recomputeLane i s).Laws := by
  refine h.allRecomputed hset (h.toRecompute_nodup i) fun a ha c hc => ?_
  rcases List.mem_append.mp ha with ha | ha
  · obtain ⟨e, he, hl⟩ := h.listed_of_mem (List.mem_of_mem_filter ha)
    rw [he] at hc; cases hc
    exact Or.inr hl
  · obtain ⟨e, he, hp⟩ := mem_cuesWhere ha
    rw [he] at hc; cases hc
    exact Or.inl (of_decide_eq_true (Bool.and_eq_true_iff.mp hp).2)

/-- A time discontinuity's effect on the cues keeps every law, the time SET (R153). -/
theorem State.Laws.cuesDiscontinued (h : s.Laws) (hset : s.tb.set = true) : (cuesDiscontinuity s).Laws := by
  refine State.Laws.lateHandled (h.allRecomputed hset (h.dues.1.filter _) fun a ha c hc => ?_) ?_
  · obtain ⟨e, he, hl⟩ := h.listed_of_mem (List.mem_of_mem_filter ha)
    rw [he] at hc; cases hc
    exact Or.inr hl
  · rw [(CueTouch.foldl (fun s i => recomputeCue_touch s i) _ s).keeps.2.2.2.1]; exact hset

/-- A lane's suspension keeps every law (R154). -/
theorem State.Laws.laneSuspended (h : s.Laws) (i : Nat) : (suspendLane i s).Laws :=
  foldl_slots (P := State.Laws) (Q := fun _ _ => True) (fun _ a hu _ => hu.suspended a) (fun _ _ _ _ _ => trivial) (cuesWhere_nodup s _) h fun _ _ => trivial

/-! ### Devices in a bank -/

/-- A change of every device that keeps its laws, lane, input and cue, and an empty ring, keeps every law. -/
theorem State.Laws.devicesMapped (h : s.Laws) {f : Device → Device} (hf : ∀ d : Device, d.Laws → (f d).Laws)
    (hkeep : ∀ d, (f d).lane = d.lane ∧ (f d).input = d.input ∧ (f d).cue = d.cue ∧ (d.ring = [] → (f d).ring = [])) : (mapDevices f s).Laws := by
  have hmem : ∀ d ∈ (s.devices.map (Option.map f)).list, ∃ e ∈ s.devices.list, d = e.map f :=
    fun d hd => by obtain ⟨e, he, rfl⟩ := Bank.mem_map.mp hd; exact ⟨e, he, rfl⟩
  exact { h with
    names := ⟨fun d hd x hx => by
      obtain ⟨e, he, rfl⟩ := hmem d hd
      obtain ⟨y, hy, rfl⟩ := Option.mem_map.mp hx
      rw [(hkeep y).1]; exact h.names.1 e he y hy, h.names.2⟩
    devices := by
      refine ⟨fun d hd x hx => ?_, ?_⟩
      · obtain ⟨e, he, rfl⟩ := hmem d hd
        obtain ⟨y, hy, rfl⟩ := Option.mem_map.mp hx
        exact (Device.ok_iff_laws _).mpr (hf y ((Device.ok_iff_laws y).mp (h.devices.1 e he y hy)))
      · have hinput : ∀ d : Option Device, (d.map f).bind Device.input = d.bind Device.input := fun d => by
          cases d with
          | none => rfl
          | some d => exact (hkeep d).2.1
        simpa [mapDevices, Bank.map, List.filterMap_map, Function.comp_def, hinput] using h.devices.2
    owners := by
      refine ⟨fun k hk d hd i hi => ?_, fun i hi c hc k hk => ?_⟩
      · rw [State.device, mapDevices, Bank.get_mapSome] at hd
        obtain ⟨y, hy, rfl⟩ := Option.mem_map.mp hd
        rw [(hkeep y).2.2.1] at hi
        exact h.owners.1 k hk y hy i hi
      · obtain ⟨d, hd, hdc⟩ := h.owned.2 c hc hk
        rw [State.device, mapDevices, Bank.get_mapSome, show s.devices.get k none = some d from hd]
        simp [(hkeep d).2.2.1, hdc]
    unset := fun hu => by
      obtain ⟨h1, h2, h3, h4⟩ := h.unset hu
      refine ⟨h1, h2, fun d hd x hx => ?_, h4⟩
      obtain ⟨e, he, rfl⟩ := hmem d hd
      obtain ⟨y, hy, rfl⟩ := Option.mem_map.mp hx
      exact (hkeep y).2.2.2 (h3 e he y hy) }

/-- A step's effect on the devices keeps every law (R135). -/
theorem State.Laws.devicesStepped (h : s.Laws) (a : Int) : (devicesStep a s).Laws :=
  h.devicesMapped (fun _ hd => hd.stepped a) fun d => ⟨rfl, rfl, rfl, fun hr => by simp [Device.stepped, hr]⟩

/-- A mapping change's effect on the devices keeps every law (R136). -/
theorem State.Laws.devicesShifted (h : s.Laws) (i : Nat) (shift : Int) : (devicesShift i shift s).Laws := by
  refine h.devicesMapped (fun _ hd => hd.shifted i shift) fun d => ?_
  unfold Device.shifted
  split_ifs
  · exact ⟨rfl, rfl, rfl, fun hr => by simp [hr]⟩
  · exact ⟨rfl, rfl, rfl, id⟩

/-- A time discontinuity's effect on the devices keeps every law (R137). -/
theorem State.Laws.devicesDiscontinued (h : s.Laws) : (devicesDiscontinuity s).Laws :=
  h.devicesMapped (fun _ hd => hd.discontinued) fun _ => ⟨rfl, rfl, rfl, fun _ => rfl⟩

/-- A mapping change keeps every law, the time SET (R92). -/
theorem State.Laws.mappingChanged (h : s.Laws) (hset : s.tb.set = true) (i : Nat) (delta : Int) : (mappingChange i delta s).Laws :=
  (h.devicesShifted i _).laneRecomputed hset i

/-! ### Lane records -/

/-- The laws of a lane that is not FREE, each by name. -/
structure Lane.Laws (l : Lane) : Prop where
  rate : l.rateOk
  mapped : l.state.mapped = true → l.mapping.isSome = true ∧ l.latched.isSome = true ∧ l.next.isSome = true
  waiting : l.state = .waiting → l.latched = none ∧ (l.atNext = true → l.pendingLabel.isSome = true) ∧ (l.atNext = false → l.mapping = some ⟨0, 0⟩)
  frozen : l.frozen.isSome = true ↔ l.state = .held ∨ l.state = .releasing
  running : l.state = .running → l.pendingLabel = none
  mappingCount : ∀ m ∈ l.mapping, m.c0 < l.nDay
  pendingCount : ∀ c ∈ l.pendingLabel, c < l.nDay
  frozenCount : ∀ c ∈ l.frozen, c < l.nDay
  latchedCount : ∀ r ∈ l.latched, r.count < l.nDay ∧ r.pt = l.boundaryPt r.index
  sound : ∀ x ∈ l.sound, x.pull ≤ 2

theorem Lane.ok_iff_laws (l : Lane) : l.ok ↔ l.Laws := by
  constructor
  · rintro ⟨h1, h2, h3, h4, h5, h6, h7, h8, h9, h10⟩
    exact ⟨h1, h2, h3, h4, h5, h6, h7, h8, h9, h10⟩
  · rintro ⟨h1, h2, h3, h4, h5, h6, h7, h8, h9, h10⟩
    exact ⟨h1, h2, h3, h4, h5, h6, h7, h8, h9, h10⟩

/-- A count reduced modulo the day lies within it. -/
theorem wrap_lt {n : Nat} (hn : 0 < n) (v : Int) : wrap v n < n := by
  have := Int.emod_lt_of_pos v (b := n) (by omega)
  have := Int.emod_nonneg v (b := n) (by omega)
  rw [wrap]; omega

/-- A lane record that is not FREE written keeps every law. -/
theorem State.Laws.laneSet (h : s.Laws) (i : Nat) {l : Lane} (hl : l.Laws) (hst : l.state ≠ .free)
    (hu : s.tb.set = false → l.state = .waiting ∧ l.next = none) : (s.setLane i l).Laws :=
  { h.toLawsApart.laneWritten i (l := l) ⟨fun hf => absurd hf hst, fun _ => (Lane.ok_iff_laws l).mpr hl⟩ (fun _ => hst)
      (fun hun => ⟨Or.inr (hu hun).1, (hu hun).2⟩) with owners := h.owners }

/-- A lane that is not FREE. -/
theorem State.Laws.lane_laws (h : s.Laws) {i : Nat} (hst : (s.lane i).state ≠ .free) : (s.lane i).Laws := (Lane.ok_iff_laws _).mp (h.lane_ok hst)

section
variable {l : Lane}

/-- A lane that latches a boundary under a mapping in force keeps its laws (R85). -/
theorem Lane.latch_laws (hrate : l.rateOk) (hst : l.state.mapped = true) (hmap : l.mapping.isSome = true)
    (hfrozen : l.frozen.isSome = true ↔ l.state = .held ∨ l.state = .releasing) (hrun : l.state = .running → l.pendingLabel = none)
    (hm : ∀ m ∈ l.mapping, m.c0 < l.nDay) (hp : ∀ c ∈ l.pendingLabel, c < l.nDay) (hf : ∀ c ∈ l.frozen, c < l.nDay) (hs : ∀ x ∈ l.sound, x.pull ≤ 2)
    (k : Int) : (l.latch k).Laws where
  rate := hrate
  mapped := fun _ => ⟨hmap, rfl, rfl⟩
  waiting := fun hw => by
    have hw' : l.state = .waiting := hw
    rw [hw'] at hst; cases hst
  frozen := hfrozen
  running := hrun
  mappingCount := hm
  pendingCount := hp
  frozenCount := hf
  latchedCount := fun r hr => by
    cases hr
    refine ⟨?_, rfl⟩
    change l.latchCount k < l.nDay
    unfold Lane.latchCount
    split_ifs with hheld
    · obtain ⟨c, hc⟩ := Option.isSome_iff_exists.mp (hfrozen.mpr (Or.inl hheld))
      rw [hc, Option.getD_some]; exact hf c hc
    · exact wrap_lt hrate.nDay_pos _
  sound := hs

/-- A lane with its mapping in force that latches a boundary keeps its laws (R85). -/
theorem Lane.Laws.latched (h : l.Laws) (hst : l.state.mapped = true) (k : Int) : (l.latch k).Laws :=
  Lane.latch_laws h.rate hst (h.mapped hst).1 h.frozen h.running h.mappingCount h.pendingCount h.frozenCount h.sound k

/-- A lane that starts keeps its laws (R84, R85). -/
theorem Lane.Laws.started (h : l.Laws) (hst : l.state = .waiting) (k : Int) : ((l.started k).latch k).Laws := by
  obtain ⟨-, hnext, -⟩ := h.waiting hst
  have hfrozen : l.frozen = none := by rw [← Option.not_isSome_iff_eq_none, h.frozen, hst]; decide
  refine Lane.latch_laws (l := l.started k) h.rate rfl rfl (by simp [Lane.started, hfrozen]) (fun _ => rfl) (fun m hm => ?_) (fun c hc => by cases hc)
    (fun c hc => h.frozenCount c hc) h.sound k
  cases hm
  change (if l.atNext then (⟨k, l.pendingLabel.getD 0⟩ : Mapping) else ⟨0, 0⟩).c0 < l.nDay
  split_ifs with hat
  · obtain ⟨c, hc⟩ := Option.isSome_iff_exists.mp (hnext hat)
    rw [hc]; exact h.pendingCount c hc
  · exact h.rate.nDay_pos

/-- A lane whose release takes effect keeps its laws (R85, R91). -/
theorem Lane.Laws.released (h : l.Laws) (k : Int) : ((l.released k).latch k).Laws := by
  refine Lane.latch_laws (l := l.released k) h.rate rfl rfl (by simp [Lane.released]) (fun _ => rfl) (fun m hm => ?_) (fun c hc => by cases hc)
    (fun c hc => by cases hc) h.sound k
  cases hm
  change l.pendingLabel.getD (wrap ((l.frozen.getD 0 : Nat) + 1) l.nDay) < l.nDay
  cases hp : l.pendingLabel with
  | none => exact wrap_lt h.rate.nDay_pos _
  | some c => exact h.pendingCount c hp

end

/-- What a lane latches and how its outputs pulse. -/
theorem latchAndPulse_setLane {i : Nat} (hi : i < 16) (l : Lane) (k : Int) (s : State) :
    latchAndPulse i k (s.setLane i l) = framePulses i (s.setLane i (l.latch k)) := by
  rw [latchAndPulse, State.lane_setLane_same hi]
  congr 1
  rw [State.setLane, State.setLane_lanes, Bank.put_put]; rfl

/-- A boundary taken keeps every law, the time SET (R84, R85, R91). -/
theorem State.Laws.boundaryTaken (h : s.Laws) (hset : s.tb.set = true) (i : Nat) (k : Int) : (takeBoundary i k s).Laws := by
  have hlatched : ∀ l : Lane, l.Laws → l.state ≠ .free → (framePulses i (s.setLane i l)).Laws :=
    fun l hl hst => (h.laneSet i hl hst fun hun => absurd (hset.symm.trans hun) (by decide)).pulsed i
  unfold takeBoundary
  dsimp only
  split
  · exact h
  · next hst =>
    have hlaws := h.lane_laws (i := i) (by rw [hst]; decide)
    rw [latchAndPulse_setLane (State.lane_lt (s := s) (by rw [hst]; decide))]
    exact ((hlatched _ (hlaws.started hst k) (by simp [Lane.latch, Lane.started])).raised .laneReleased).laneRecomputed hset i
  · next hst =>
    exact hlatched _ ((h.lane_laws (i := i) (by rw [hst]; decide)).latched (by rw [hst]; rfl) k) (by simp [Lane.latch, hst])
  · next hst =>
    exact hlatched _ ((h.lane_laws (i := i) (by rw [hst]; decide)).latched (by rw [hst]; rfl) k) (by simp [Lane.latch, hst])
  · next hst =>
    rw [latchAndPulse_setLane (State.lane_lt (s := s) (by rw [hst]; decide))]
    exact ((hlatched _ ((h.lane_laws (i := i) (by rw [hst]; decide)).released k) (by simp [Lane.latch, Lane.released])).raised .laneReleased).mappingChanged
      hset i _

end

end Sys2Proof.Machine
end

section
/-! Moves of PT (sections 3.5, 4.3, 4.5, 4.6): what steps, accepted edges, TIME_SET and their announcements keep of the laws. -/

namespace Sys2Proof.Machine

section
variable {s : State}

/-! ### Announcements -/

/-- A free value drawn changes no law. -/
theorem State.Laws.drawn (h : s.Laws) : s.draw.Laws := { h with }

/-- What two announcements each keep, they keep in any order. -/
theorem unordered_keeps {P : State → Prop} {f g : State → State} (hf : ∀ u, P u → P (f u)) (hg : ∀ u, P u → P (g u)) (hd : ∀ u, P u → P u.draw)
    (h : P s) : P (unordered f g s) := by
  unfold unordered
  split_ifs
  · exact hg _ (hf _ h)
  · exact hd _ (hg _ (hf _ h))
  · exact hd _ (hf _ (hg _ h))

/-- A boundary reached is one of a time that is SET. -/
theorem State.LawsApart.set_of_reached (h : s.LawsApart) {i pt : Nat} (hr : (s.lane i).boundaryReached pt = true) : s.tb.set = true := by
  rw [← Bool.not_eq_false]
  intro hu
  obtain ⟨k, hk, -⟩ := (Option.any_eq_true _ _).mp (Bool.and_eq_true_iff.mp hr).2
  rw [(h.lane_unset i hu).2] at hk
  cases hk

/-- A lane that catches up keeps every law (R86). -/
theorem State.Laws.caughtUp (h : s.Laws) (i : Nat) : (catchUp i s).Laws := by
  unfold catchUp
  split_ifs with hr
  · exact h.boundaryTaken (h.set_of_reached hr) i _
  · exact h

/-- A step's effect on the lanes keeps every law (R86). -/
theorem State.Laws.lanesStepped (h : s.Laws) (a : Int) : (lanesStep a s).Laws := by
  have hall : ∀ (l : List Nat) (u : State), u.Laws → (l.foldl (fun s i => catchUp i s) u).Laws := fun l => by
    induction l with
    | nil => exact fun _ hu => hu
    | cons i l ih => exact fun u hu => ih _ (hu.caughtUp i)
  unfold lanesStep
  dsimp only
  split_ifs
  · exact (hall _ _ h).drawn
  · exact hall _ _ h
  · exact h

/-! ### Steps -/

/-- PT written keeps every law. -/
theorem State.Laws.ptPut (h : s.Laws) (v : Int) : (s.putPt v).Laws := by
  unfold State.putPt
  split_ifs with hv
  · exact { h with ranges := ⟨by change v.toNat < ptLimit; omega, h.ranges.2⟩ }
  · exact { h with ranges := ⟨(Config.freePt s.draws).isLt, h.ranges.2⟩ }

/-- A step keeps every law (R71). -/
theorem State.Laws.stepped (h : s.Laws) (a : Int) : (stepPt a s).Laws := by
  have hput : ((raise .ptStep (s.putPt (s.tb.pt + a))).setRef ((raise .ptStep (s.putPt (s.tb.pt + a))).ref.moved a)).Laws :=
    State.Laws.referenced ((h.ptPut _).raised _) (((h.ptPut _).raised _).ref_laws.moved a)
  exact unordered_keeps (P := State.Laws) (fun _ hu => hu.lanesStepped a) (fun _ hu => hu.cuesStepped a) (fun _ hu => hu.drawn)
    ((hput.marksStepped a).devicesStepped a)

/-- What a step keeps of the Timebase and the sources. -/
theorem stepPt_tb (a : Int) (s : State) : ∃ pt, (stepPt a s).tb = { s.tb with pt := pt } := by
  refine ⟨(s.putPt (s.tb.pt + a)).tb.pt, ?_⟩
  rw [(stepPt_spec s a).keeps.2.2.2.1]
  change (s.putPt (s.tb.pt + a)).tb = _
  rw [(putPt_spec s (s.tb.pt + a)).2]

/-! ### An accepted edge -/

/-- A phase error is at most half a period. -/
theorem halfUp_le (v : Int) {p : Nat} (hp : 0 < p) : 2 * |halfUp v p| ≤ p := by
  obtain ⟨-, hlow, hhigh⟩ := phase_halfUp v hp
  rw [Int.abs_eq_natAbs]
  omega

theorem Timebase.countIn_keeps (t : Timebase) (e : Int) : (t.countIn e).1.set = t.set ∧ (t.countIn e).1.refPresent = t.refPresent := by
  unfold Timebase.countIn
  split_ifs <;> exact ⟨rfl, rfl⟩

theorem Timebase.countOut_keeps (t : Timebase) (e : Int) : (t.countOut e).1.set = t.set ∧ (t.countOut e).1.refPresent = t.refPresent := by
  unfold Timebase.countOut
  split_ifs <;> exact ⟨rfl, rfl⟩

/-- An entry edge that is taken keeps every law. -/
theorem State.Laws.entered (h : s.Laws) : (s.setTb { s.tb with entry := false }).Laws := by
  obtain ⟨hin, hout, hentry, hrest⟩ := h.counts
  exact h.timed { h.tb_laws with counts := ⟨hin, hout, fun hst => ⟨(hentry hst).1, rfl⟩, hrest⟩ } rfl rfl

/-- An edge counted in LOCKING keeps every law (R68, R69). -/
theorem State.Laws.edgeCounted (h : s.Laws) (hst : s.tb.state = .locking) (hentry : s.tb.entry = false) {e : Int} {period : Nat} (hp : 0 < period)
    (he : 2 * |e| ≤ period) : (raiseIf ((s.tb.loop e period).countIn e).2 .lockAcquired (s.setTb ((s.tb.loop e period).countIn e).1)).Laws := by
  obtain ⟨hset, hview⟩ := (s.tb.loop e period).countIn_keeps e
  exact (h.timed ((h.tb_laws.looped (Or.inl hst) hp he).countedIn hst hentry e) hset hview).raisedIf _ _

/-- An accepted edge keeps every law (R67 to R70). -/
theorem State.Laws.edgeTaken (h : s.Laws) {e : Int} {period : Nat} (hp : 0 < period) (he : 2 * |e| ≤ period) : (takeEdge e period s).Laws := by
  unfold takeEdge
  split
  · exact h
  · exact h
  · next hst =>
    dsimp only
    split_ifs with hstep
    · obtain ⟨pt, htb⟩ := stepPt_tb (-e) (s.setTb { s.tb with entry := false })
      exact (h.entered.stepped (-e)).edgeCounted (by rw [htb]; exact hst) (by rw [htb]; rfl) hp (by simp)
    · exact h.entered.edgeCounted hst rfl hp he
  · next hst =>
    obtain ⟨hset, hview⟩ := (s.tb.loop e period).countOut_keeps e
    exact (h.timed ((h.tb_laws.looped (Or.inr hst) hp he).countedOut hst e) hset hview).raisedIf _ _

/-- A monitor that is PRESENT has a house period. -/
theorem RefMon.Laws.housePeriod_pos {r : RefMon} {view : Bool} (h : r.Laws view) (hst : r.state = .present) : 0 < r.housePeriod :=
  ratePeriod_pos (h.present hst).2

/-- An edge in PRESENT keeps every law (R49). -/
theorem State.Laws.presentEdged (h : s.Laws) (hst : s.ref.state = .present) (adj : Int) : (presentEdge adj s).Laws := by
  unfold presentEdge
  split_ifs
  · have hperiod := h.ref_laws.housePeriod_pos hst
    exact (h.referenced (h.ref_laws.accepted hst adj)).edgeTaken hperiod (halfUp_le adj hperiod)
  · exact h

/-- An edge in QUALIFYING keeps every law (R45 to R48). -/
theorem State.Laws.qualifyEdged (h : s.Laws) (hst : s.ref.state = .qualifying) (adj : Int) : (qualifyEdge adj s).Laws := by
  unfold qualifyEdge
  split
  · exact h.edgeHeld hst adj
  · next before hbefore =>
    have hmeasured : ({ s.ref with lastPeriod := adj - before, prev := some adj } : RefMon).Laws s.tb.refPresent :=
      { h.ref_laws with prev := fun hc => absurd hst hc }
    obtain ⟨-, hfew, hfull⟩ := hmeasured.judged hst (adj - before)
    dsimp only
    generalize hr : RefMon.judgePeriod { s.ref with lastPeriod := adj - before, prev := some adj } (adj - before) = r at hfew hfull ⊢
    generalize (r.mismatch && !s.ref.mismatch) = b
    split_ifs with h8
    · obtain ⟨hset, hview⟩ := s.tb.refArrived_set s.selectedCal
      have hq := hfull h8 adj
      have hperiod := hq.housePeriod_pos rfl
      rw [← hview] at hq
      have hv : ((raise .refQualified (raiseIf b .refMismatch s)).setRef (r.qualified adj)).setTb (s.tb.refArrived s.selectedCal) |>.Laws := by
        have hb : (raise .refQualified (raiseIf b .refMismatch s)).Laws := (h.raisedIf b _).raised _
        cases b <;> exact hb.viewed (h.tb_laws.refArrived (h.cal_le _)) hset hq
      have hdone := hv.edgeTaken hperiod (halfUp_le adj hperiod)
      unfold completeQualification
      cases b <;> exact hdone
    · exact (h.referenced (hfew (by omega))).raisedIf _ _

/-! ### TIME_SET -/

/-- The placing of PT keeps every law (R53, R61). -/
theorem State.Laws.placed (h : s.Laws) (v : Int) : (movePt v s).Laws := by
  have hput := h.ptPut v
  have href : (s.putPt v).ref = s.ref := by rw [(putPt_spec s v).2]
  have hr := hput.ref_laws.moved (v - s.tb.pt)
  rw [href] at hr
  exact hput.referenced hr

theorem movePt_set (v : Int) (s : State) : (movePt v s).tb.set = s.tb.set := by
  change (s.putPt v).tb.set = _
  rw [(putPt_spec s v).2]

/-- A function that keeps the record read where there is none, read at any number. -/
theorem Bank.get_mapKept {α : Type} {n : Nat} (b : Bank α n) {f : α → α} {d : α} (hd : f d = d) (i : Nat) : (b.map f).get i d = f (b.get i d) := by
  by_cases hi : i < n
  · exact Bank.get_map b f hi d
  · rw [Bank.get_out _ (by omega), Bank.get_out _ (by omega), hd]

/-- Lanes that begin to track keep every law, the time SET (R83, R87). -/
theorem State.Laws.lanesTracked (h : s.Laws) (hset : s.tb.set = true) {f : Lane → Lane} (hf : ∀ l, f l = l ∨ l.state ≠ .free ∧ ∃ k, f l = { l with next := some k }) :
    { s with lanes := s.lanes.map f }.Laws := by
  have hreset : f Lane.reset = Lane.reset := (hf _).resolve_right fun hc => hc.1 rfl
  have hstate : ∀ i, (({ s with lanes := s.lanes.map f } : State).lane i).state = (s.lane i).state := fun i => by
    have hl : ({ s with lanes := s.lanes.map f } : State).lane i = f (s.lane i) := Bank.get_mapKept _ hreset i
    rcases hf (s.lane i) with hfl | ⟨-, k, hfl⟩ <;> rw [hl, hfl]
  exact { h with
    lanes := fun l hl => by
      obtain ⟨e, he, rfl⟩ := Bank.mem_map.mp hl
      rcases hf e with hfe | ⟨hst, k, hfe⟩
      · rw [hfe]; exact h.lanes e he
      · rw [hfe]
        have hlaws := (Lane.ok_iff_laws _).mp ((h.lanes e he).2 hst)
        exact ⟨fun hc => absurd hc hst, fun _ => (Lane.ok_iff_laws _).mpr { hlaws with mapped := fun hm => ⟨(hlaws.mapped hm).1, (hlaws.mapped hm).2.1, rfl⟩ }⟩
    names := ⟨fun d hd x hx => by rw [hstate]; exact h.names.1 d hd x hx, fun c hc x hx i hi => by rw [hstate]; exact h.names.2.1 c hc x hx i hi,
      fun g hg i hi => by rw [hstate]; exact h.names.2.2 g hg i hi⟩
    unset := fun hu => absurd (hset.symm.trans hu) (by decide) }

/-- The first TIME_SET keeps every law (R60). -/
theorem State.Laws.firstSet (h : s.Laws) : (firstTimeSet s).Laws := by
  have hset : (s.setTb { s.tb with set := true }).Laws :=
    { h with unset := fun hu => absurd hu (by simp) }
  refine State.Laws.cuesTimeSetDone (hset.lanesTracked rfl fun l => ?_) rfl
  dsimp only
  split_ifs with hst
  · exact Or.inr ⟨by rw [hst]; decide, _, rfl⟩
  · exact Or.inl rfl

/-- A time discontinuity keeps every law (R63). -/
theorem State.Laws.discontinued (h : s.Laws) (hset : s.tb.set = true) : (discontinuity s).Laws := by
  have hlanes : (lanesDiscontinuity (marksDiscontinuity (raise .timeDiscontinuity s))).Laws := by
    refine (h.raised .timeDiscontinuity).marksEmptied.lanesTracked hset fun l => ?_
    split_ifs with hst
    · exact Or.inl rfl
    · exact Or.inr ⟨hst, _, rfl⟩
  refine (unordered_keeps (P := fun u => u.Laws ∧ u.tb.set = true) (fun u hu => ⟨hu.1.devicesDiscontinued, hu.2⟩)
    (fun u hu => ⟨hu.1.cuesDiscontinued hu.2, ?_⟩) (fun u hu => ⟨hu.1.drawn, hu.2⟩) ⟨hlanes, hset⟩).1
  rw [(cuesDiscontinuity_touch u).keeps.2.2.2.1]
  exact hu.2

end

end Sys2Proof.Machine
end

section
/-! The laws and the commands of the Lane Unit (Chapter 5). -/

namespace Sys2Proof.Machine

/-! ### Commands that keep the laws -/

/-- A state of a part that runs: every law, with RESET high. -/
structure State.Lives (s : State) : Prop extends s.Laws where
  up : s.resetLow = false

/-- What an operation leaves of a part that runs. -/
theorem State.Lives.of {s u : State} (h : s.Lives) (hu : u.Laws) (hup : u.resetLow = s.resetLow) : u.Lives := ⟨hu, hup.trans h.up⟩

/-- A command keeps every law of a part that runs. -/
def Keeps (g : State → Host.Outcome State Fault Refusal) : Prop := ∀ s t, s.Lives → g s = .next t → t.Lives

/-- A request whose effect keeps the laws. -/
theorem keeps_request {f : State → State × Answer} (hf : ∀ s : State, s.Lives → (f s).1.Lives) : Keeps (request f) := by
  intro s t h ht
  rw [request_live h.up] at ht
  cases ht
  have hlives := hf s h
  exact ⟨hlives.toLaws.answered _, hlives.up⟩

/-- A request that only reads. -/
theorem keeps_reading {f : State → State × Answer} (hf : ∀ s, (f s).1 = s) : Keeps (request f) :=
  keeps_request fun s h => by rw [hf s]; exact h

/-- An event whose effect keeps the laws where it can happen. -/
theorem keeps_event {g : State → Bool} {f : State → State} (hf : ∀ s : State, s.Lives → g s = true → (f s).Lives) : Keeps (event g f) := by
  intro s t h ht
  cases hg : g s with
  | false => rw [event_idle hg] at ht; cases ht; exact h
  | true => rw [event_live h.up hg] at ht; cases ht; exact hf s h hg

section
variable {s : State}

theorem Noted.up {u : State} (h : Noted s u) : u.resetLow = s.resetLow := by rw [h.frame]

/-- What is noted keeps a part that runs. -/
theorem State.Lives.noted {u : State} (h : s.Lives) (hu : Noted s u) : u.Lives := h.of (hu.laws h.toLaws) hu.up

/-- Conditions noted on a lane keep a part that runs. -/
theorem State.Lives.stuck (h : s.Lives) (i : Nat) (m : Conds) : (stick i m s).Lives := h.noted (Noted.refl.stick i m)

/-- A lane that is not FREE or WAITING is one of a time that is SET. -/
theorem State.LawsApart.set_of_lane (h : s.LawsApart) {i : Nat} (hst : (s.lane i).state ≠ .free) (hw : (s.lane i).state ≠ .waiting) : s.tb.set = true := by
  rw [← Bool.not_eq_false]
  intro hu
  exact (h.lane_unset i hu).1.elim hst hw

end

/-! ### Labels brought in -/

/-- A well-formed label brought in has its count within the day (R21). -/
theorem Lane.bring_count {l : Lane} (h : l.rateOk) {lab x : Label} {m : Conds} (hwf : l.wellFormed lab = true) (hb : l.bring lab = .done m x) :
    l.countOf x < l.nDay := by
  have hmm : lab.mm ≠ anyField := by
    have := (Lane.wellFormed_iff.mp hwf).2.1
    rw [anyField]; omega
  unfold Lane.bring Lane.patternExists at hb
  rw [beq_eq_false_iff_ne.mpr hmm, Bool.false_or] at hb
  split_ifs at hb with hex
  · cases hb; exact (Lane.count_of_label h hwf hex).1
  · rw [Lane.meet] at hb
    split_ifs at hb
    cases hb
    obtain ⟨hwf', hex'⟩ := Lane.nextExisting_ok h hwf (Bool.eq_false_iff.mpr hex)
    exact (Lane.count_of_label h hwf' hex').1

/-! ### LANE_DEFINE and LANE_CLEAR -/

/-- A clamped value lies between its bounds. -/
theorem clampNat_range {lo hi : Nat} (h : lo ≤ hi) (v : Int) : lo ≤ clampNat lo hi v ∧ clampNat lo hi v ≤ hi := by
  rw [clampNat, clampInt_eq (by omega)]; omega

/-- A lane defined under the checks of R81 has a rate of R3 or R4. -/
theorem Lane.defined_rateOk (old : Lane) {code : Nat} (customP : Int) (customB : Nat) (phase : Int) {mode sound rate pull origin : Nat}
    (h : defineOk code mode sound rate pull origin = true) : (old.defined code customP customB mode phase sound rate pull origin).rateOk := by
  simp only [defineOk, Bool.and_eq_true, Bool.or_eq_true, beq_iff_eq, decide_eq_true_eq, List.contains_iff_mem] at h
  obtain ⟨⟨⟨⟨⟨hcode, hmode⟩, hdrop⟩, -⟩, -⟩, -⟩ := h
  obtain ⟨hp1, hp2⟩ := clampNat_range (lo := 225000) (hi := 10800000) (by omega) customP
  have hperiod : 0 < if code = 15 then clampNat 225000 10800000 customP else ratePeriod code := by
    split_ifs with hc
    · omega
    · exact ratePeriod_pos (hcode.resolve_right hc)
  refine ⟨?_, fun hdf => ?_, ?_⟩
  · rcases hcode with hc | hc
    · have hne : code ≠ 15 := by rintro rfl; revert hc; decide
      exact Or.inl ⟨hc, if_neg hne, if_neg hne⟩
    · obtain ⟨hb1, hb2⟩ := clampNat_range (lo := 1) (hi := 250) (by omega) customB
      simp only [Lane.defined, if_pos hc]
      exact Or.inr ⟨hc, hp1, hp2, hb1, hb2⟩
  · have hone : mode = 1 := by simpa [Lane.defined] using hdf
    have := hdrop.resolve_left (by omega)
    simpa [Lane.defined, dropAllowed] using this
  · generalize hpd : (if code = 15 then clampNat 225000 10800000 customP else ratePeriod code) = p at hperiod
    have := (clampNat_range (lo := 0) (hi := p - 1) (by omega) phase).2
    change clampNat 0 ((if code = 15 then clampNat 225000 10800000 customP else ratePeriod code) - 1) phase
      < if code = 15 then clampNat 225000 10800000 customP else ratePeriod code
    rw [hpd]
    omega

/-- A lane defined, with its pending label and its next boundary, keeps the laws of a lane (R81, R82). -/
theorem Lane.defined_laws (old : Lane) {code : Nat} (customP : Int) (customB : Nat) (phase : Int) {mode sound rate pull origin : Nat}
    (h : defineOk code mode sound rate pull origin = true) {pending : Option Nat} (next : Option Int)
    (hp : ∀ c ∈ pending, c < (old.defined code customP customB mode phase sound rate pull origin).nDay) (hat : origin = 1 → pending.isSome = true) :
    ({ old.defined code customP customB mode phase sound rate pull origin with pendingLabel := pending, next := next } : Lane).Laws := by
  have hrate := Lane.defined_rateOk old customP customB phase h
  simp only [defineOk, Bool.and_eq_true, Bool.or_eq_true, beq_iff_eq, decide_eq_true_eq] at h
  obtain ⟨⟨⟨-, hsound⟩, hpull⟩, horigin⟩ := h
  exact {
    rate := hrate
    mapped := fun hm => absurd hm Bool.false_ne_true
    waiting := fun _ => ⟨rfl, fun ho => hat (by simpa [Lane.defined] using ho), fun ho => by
      have h0 : origin = 0 := by
        have : ¬ origin = 1 := by simpa [Lane.defined] using ho
        omega
      simp [Lane.defined, h0]⟩
    frozen := by simp [Lane.defined, Lane.freed, Lane.reset]
    running := fun hc => by simp [Lane.defined] at hc
    mappingCount := fun m hm => by
      simp only [Lane.defined] at hm
      split_ifs at hm
      · cases hm; exact hrate.nDay_pos
      · cases hm
    pendingCount := hp
    frozenCount := fun c hc => by simp [Lane.defined, Lane.freed, Lane.reset] at hc
    latchedCount := fun r hr => by simp [Lane.defined, Lane.freed, Lane.reset] at hr
    sound := fun x hx => by
      simp only [Lane.defined] at hx
      split_ifs at hx with h1
      · cases hx; exact (hpull.resolve_left (by omega)).2
      · cases hx }

/-- LANE_DEFINE keeps the laws. -/
theorem keeps_laneDefine (lane code : Nat) (customP : Int) (customB mode : Nat) (phase : Int) (sound rate pull origin : Nat) (label : Label) :
    Keeps (execLaneDefine lane code customP customB mode phase sound rate pull origin label) := by
  unfold execLaneDefine
  refine keeps_request fun s h => ?_
  dsimp only
  split
  · exact h
  split
  · exact h
  next h2 =>
  split
  · exact h
  rw [Bool.not_eq_true, Bool.or_eq_false_iff, Bool.not_eq_false', Bool.and_eq_false_imp, beq_iff_eq] at h2
  obtain ⟨hok, hwf⟩ := h2
  split
  · exact h.stuck _ _
  · next m pending hb =>
    have hpending : (∀ c ∈ pending, c < ((s.lane lane).defined code customP customB mode phase sound rate pull origin).nDay)
        ∧ (origin = 1 → pending.isSome = true) := by
      split_ifs at hb with ho
      · obtain ⟨m1, x, m2, hx, hd, -⟩ := Conv.bind_done hb
        cases hd
        refine ⟨fun c hc => ?_, fun _ => rfl⟩
        cases hc
        exact Lane.bring_count (Lane.defined_rateOk _ customP customB phase hok) (by simpa using hwf ho) hx
      · cases hb
        exact ⟨fun c hc => (by cases hc), fun hc => absurd hc ho⟩
    refine State.Lives.stuck (h.of (h.laneSet lane (Lane.defined_laws _ customP customB phase hok _ hpending.1 hpending.2) (by simp [Lane.defined])
      fun hu => ⟨rfl, ?_⟩) rfl) lane m
    dsimp only; rw [hu]; rfl

/-- A FREE lane written where nothing names it keeps every law (R99). -/
theorem State.Laws.laneFreed {s : State} (h : s.Laws) {i : Nat} (hno : s.laneNamed i = false) : (s.setLane i (s.lane i).freed).Laws := by
  rw [← Bool.not_eq_true, laneNamed_iff] at hno
  have hname : ∀ k, k ≠ i → (s.lane k).state ≠ .free → ((s.setLane i (s.lane i).freed).lane k).state ≠ .free :=
    fun k hk hst => by rw [State.lane_setLane_ne hk]; exact hst
  exact { h with
    lanes := fun x hx => by
      rcases Bank.mem_put hx with rfl | hx
      · exact ⟨fun _ => rfl, fun hst => absurd rfl hst⟩
      · exact h.lanes x hx
    names := by
      refine ⟨fun d hd x hx => hname _ (fun hc => hno ?_) (h.names.1 d hd x hx), fun c hc x hx k hk => hname _ (fun hkc => hno ?_) (h.names.2.1 c hc x hx k hk),
        fun f hf k hk => hname _ (fun hkc => hno ?_) (h.names.2.2 f hf k hk)⟩
      · obtain ⟨n, hn, rfl⟩ := Bank.exists_get hd none
        exact Or.inl ⟨n, hn, x, hx, hc⟩
      · obtain ⟨n, hn, rfl⟩ := Bank.exists_get hc none
        exact Or.inr (Or.inl ⟨n, hn, x, hx, hkc ▸ hk⟩)
      · obtain ⟨n, hn, rfl⟩ := Bank.exists_get hf .reset
        exact Or.inr (Or.inr ⟨n, hn, hkc ▸ hk⟩)
    unset := fun hset => by
      obtain ⟨h1, h2⟩ := h.unset hset
      refine ⟨fun x hx => ?_, h2⟩
      rcases Bank.mem_put hx with rfl | hx
      · exact ⟨Or.inl rfl, rfl⟩
      · exact h1 x hx }

/-- LANE_CLEAR keeps the laws. -/
theorem keeps_laneClear (lane : Nat) : Keeps (execLaneClear lane) := by
  refine keeps_request fun s h => ?_
  split_ifs with h1 h2 h3
  · exact h
  · exact h
  · exact h
  · exact h.of (h.laneFreed (Bool.eq_false_iff.mpr h3)) rfl

/-! ### Hold, label and release -/

/-- LANE_HOLD keeps the laws. -/
theorem keeps_laneHold (lane : Nat) : Keeps (execLaneHold lane) := by
  refine keeps_request fun s h => ?_
  dsimp only
  split_ifs
  · exact h
  split
  · next hst =>
    have hset := h.set_of_lane (i := lane) (by rw [hst]; decide) (by rw [hst]; decide)
    have hl := h.lane_laws (i := lane) (by rw [hst]; decide)
    obtain ⟨hmap, hlatched, hnext⟩ := hl.mapped (by rw [hst]; rfl)
    have hheld : ({ s.lane lane with state := .held, frozen := (s.lane lane).latched.map Latched.count } : Lane).Laws :=
      { hl with
        mapped := fun _ => ⟨hmap, hlatched, hnext⟩
        waiting := fun hc => absurd hc (by simp)
        frozen := by simp [hlatched]
        running := fun hc => absurd hc (by simp)
        frozenCount := fun c hc => by
          obtain ⟨r, hr, rfl⟩ := Option.mem_map.mp hc
          exact (hl.latchedCount r hr).1 }
    have hlaws := (h.laneSet lane hheld (by simp) fun hu => absurd (hset.symm.trans hu) (by decide)).laneSuspended lane
    exact h.of hlaws (suspendLane_touch _ lane).keeps.1
  · next hst =>
    have hset := h.set_of_lane (i := lane) (by rw [hst]; decide) (by rw [hst]; decide)
    have hl := h.lane_laws (i := lane) (by rw [hst]; decide)
    have hheld : ({ s.lane lane with state := .held } : Lane).Laws :=
      { hl with
        mapped := fun _ => hl.mapped (by rw [hst]; rfl)
        waiting := fun hc => absurd hc (by simp)
        frozen := by simpa [hst] using hl.frozen
        running := fun hc => absurd hc (by simp) }
    exact h.of (h.laneSet lane hheld (by simp) fun hu => absurd (hset.symm.trans hu) (by decide)) rfl
  all_goals exact h

/-- LANE_SET_LABEL keeps the laws. -/
theorem keeps_laneSetLabel (lane : Nat) (label : Label) : Keeps (execLaneSetLabel lane label) := by
  refine keeps_request fun s h => ?_
  dsimp only
  split_ifs with h1 h2 h3 h4
  · exact h
  · exact h
  · exact h
  · exact h
  have hst : (s.lane lane).state = .held := by_contra h4
  have hl := h.lane_laws h2
  split
  · exact h.stuck _ _
  · next m x hb =>
    have hpending : ({ s.lane lane with pendingLabel := some ((s.lane lane).countOf x) } : Lane).Laws :=
      { hl with
        waiting := fun hc => absurd (hst.symm.trans hc) (by decide)
        running := fun hc => absurd (hst.symm.trans hc) (by decide)
        pendingCount := fun c hc => by cases hc; exact Lane.bring_count hl.rate (by simpa using h3) hb }
    have hset := h.set_of_lane h2 (by rw [hst]; decide)
    exact (h.of (h.laneSet lane hpending (by rw [hst]; decide) fun hu => absurd (hset.symm.trans hu) (by decide)) rfl).stuck lane m

/-- LANE_RELEASE keeps the laws. -/
theorem keeps_laneRelease (lane : Nat) : Keeps (execLaneRelease lane) := by
  refine keeps_request fun s h => ?_
  dsimp only
  split_ifs with h1 h2
  · exact h
  · exact h
  have hst : (s.lane lane).state = .held := by_contra h2
  have hl := h.lane_laws (i := lane) (by rw [hst]; decide)
  have hset := h.set_of_lane (i := lane) (by rw [hst]; decide) (by rw [hst]; decide)
  have hreleasing : ({ s.lane lane with state := .releasing } : Lane).Laws :=
    { hl with
      mapped := fun _ => hl.mapped (by rw [hst]; rfl)
      waiting := fun hc => absurd hc (by simp)
      frozen := by simpa [hst] using hl.frozen
      running := fun hc => absurd hc (by simp) }
  exact h.of (h.laneSet lane hreleasing (by simp) fun hu => absurd (hset.symm.trans hu) (by decide)) rfl

/-! ### LANE_JAM -/

/-- A jammed lane keeps the laws of a lane (R94). -/
theorem Lane.Laws.jammed {l : Lane} (h : l.Laws) (hst : l.state = .running) (delta : Int) : (l.jammed delta).Laws :=
  { h with
    mapped := fun hm => ⟨rfl, (h.mapped hm).2⟩
    waiting := fun hc => absurd (hst.symm.trans hc) (by decide)
    mappingCount := fun m hm => by cases hm; exact wrap_lt h.rate.nDay_pos _ }

/-- LANE_JAM keeps the laws. -/
theorem keeps_laneJam (lane device : Nat) : Keeps (execLaneJam lane device) := by
  refine keeps_request fun s h => ?_
  dsimp only
  split_ifs with h1 h2 h3
  · exact h
  · exact h
  · exact h
  have hst : (s.lane lane).state = .running := by_contra h3
  split
  · exact h
  · split
    · exact h.stuck _ _
    · next m d _ =>
      have hs := h.stuck lane m
      have hst' : ((stick lane m s).lane lane).state = .running := by rw [(Noted.refl.stick lane m).lane]; exact hst
      have hset := hs.set_of_lane (i := lane) (by rw [hst']; decide) (by rw [hst']; decide)
      change (if nearestMod d (s.lane lane).nDay = 0 then stick lane m s else _).Lives
      split_ifs
      · exact hs
      · have hl := (hs.lane_laws (i := lane) (by rw [hst']; decide)).jammed hst' (nearestMod d (s.lane lane).nDay)
        have hwritten := hs.laneSet lane hl (by change ((stick lane m s).lane lane).state ≠ _; rw [hst']; decide)
          fun hu => absurd (hset.symm.trans hu) (by decide)
        exact hs.of (hwritten.mappingChanged hset lane _) (mappingChange_touch _ lane _).keeps.1

/-! ### LANE_CONVERT, LANE_EXCEPTIONS, LANE_QUERY -/

/-- LANE_CONVERT keeps the laws. -/
theorem keeps_laneConvert (lane dir pt : Nat) (label : Label) (selector : Nat) (offset position : Int) :
    Keeps (execLaneConvert lane dir pt label selector offset position) := by
  refine keeps_request fun s h => ?_
  dsimp only
  split_ifs
  · exact h
  · exact h
  · exact h
  · exact h
  split <;> exact h.stuck _ _

/-- LANE_EXCEPTIONS keeps the laws. -/
theorem keeps_laneExceptions (lane maskInvalid maskRange maskInexact rounding clearInvalid clearRange clearInexact : Nat) :
    Keeps (execLaneExceptions lane maskInvalid maskRange maskInexact rounding clearInvalid clearRange clearInexact) := by
  refine keeps_request fun s h => ?_
  dsimp only
  split_ifs
  · exact h
  · exact h.of { h.settingsWritten lane _ _ _ with owners := h.owners } rfl

/-- LANE_QUERY keeps the laws. -/
theorem keeps_laneQuery (lane : Nat) : Keeps (execLaneQuery lane) :=
  keeps_reading fun s => by dsimp only; split_ifs <;> rfl

/-! ### Boundaries and frame pulses -/

/-- LANE_BOUNDARY keeps the laws. -/
theorem keeps_laneBoundary (lane : Nat) : Keeps (execLaneBoundary lane) := by
  refine keeps_event fun s h hg => ?_
  have hset : s.tb.set = true := (Bool.and_eq_true_iff.mp (Bool.and_eq_true_iff.mp hg).1).1
  exact h.of (h.boundaryTaken hset lane _) (takeBoundary_touch s lane _).keeps.1

/-- FRAME_PULSE_END keeps the laws. -/
theorem keeps_framePulseEnd (output : Nat) : Keeps (execFramePulseEnd output) := by
  refine keeps_event fun s h hg => ?_
  have hrem : (s.fp output).remaining = 0 := by simpa using (Bool.and_eq_true_iff.mp hg).2
  exact h.of (h.framePulseEnded output hrem) rfl

/-- PULSE_ASSIGN keeps the laws. -/
theorem keeps_pulseAssign (output lane : Nat) (width : Int) (polarity cadence : Nat) : Keeps (execPulseAssign output lane width polarity cadence) := by
  refine keeps_request fun s h => ?_
  split
  · exact h
  split
  · exact h
  · next h2 => exact h.of (h.pulseAssigned output (fun hl hfree => h2 ⟨hl, hfree⟩) width polarity cadence) rfl

end Sys2Proof.Machine
end

section
/-! The laws and the commands of the Attention Unit, the Source Controller, the Reference Monitor, the Timebase, the mark inputs and the line. -/

namespace Sys2Proof.Machine

/-! ### Flags -/

theorem keeps_flags : Keeps execFlags :=
  keeps_request fun _ h => h.of (h.flagsMapped (g := fun _ f => f.marked) fun n f hf hs => by
    unfold FlagRec.marked at hs ⊢
    split_ifs at hs ⊢ with hset
    · exact hset
    · exact hf hs) rfl

/-- A flag acknowledged is not clear and seen. -/
theorem FlagRec.acked_ok {f : FlagRec} (hf : f.seen = true → f.set = true) (hs : f.acked.seen = true) : f.acked.set = true := by
  unfold FlagRec.acked at hs ⊢
  split_ifs at hs ⊢
  exact hf hs

theorem keeps_ack (l : List Nat) : Keeps (execAck l) := by
  refine keeps_request fun s h => ?_
  split
  · refine h.of (h.flagsMapped (g := fun n f => if l.contains n then f.acked else f) fun n f hf hs => ?_) rfl
    by_cases hin : l.contains n = true
    · simp only [hin, if_true] at hs ⊢
      exact FlagRec.acked_ok hf hs
    · simp only [hin, Bool.false_eq_true, if_false] at hs ⊢
      exact hf hs
  · exact h

theorem keeps_attnEnable (l : List Nat) : Keeps (execAttnEnable l) := by
  refine keeps_request fun s h => ?_
  split
  · exact h.of (h.flagsMapped (g := fun n f => { f with enable := l.contains n }) fun _ _ hf hs => hf hs) rfl
  · exact h

/-! ### Sources -/

section
variable {s : State}

/-- The configuring of a source keeps every law (R31, R32). -/
theorem State.Laws.sourceConfigured (h : s.Laws) (which : Source) {enable wait : Nat} (hw : wait ≤ 3) (hen : enable ≤ 1)
    (hsel : enable = 0 → s.src.selection ≠ which) :
    (s.setSrc (if which = .ext ∧ enable = 0 then
        { s.src.setRec which (if enable = 1 then (s.src.of which).switchedOn wait else (s.src.of which).switchedOff wait) with missing := 0 }
      else s.src.setRec which (if enable = 1 then (s.src.of which).switchedOn wait else (s.src.of which).switchedOff wait))).Laws := by
  rcases (show enable = 1 ∨ enable = 0 by omega) with rfl | rfl
  · simpa using h.switchedOn which hw
  · have hoff := fun m => h.switchedOff hw (hsel rfl) (missing := m)
    cases which with
    | xo => simpa [Sources.setRec] using hoff s.src.missing
    | ext => simpa using hoff 0

theorem keeps_sourceConfig (source enable wait : Nat) : Keeps (execSourceConfig source enable wait) := by
  refine keeps_request fun s h => ?_
  dsimp only
  split
  · exact h
  · next h1 =>
    split
    · exact h
    · next h2 => exact h.of (h.sourceConfigured (sourceOf source) (by omega) (by omega) fun he hc => h2 ⟨he, hc⟩) rfl

end

theorem changeSource_resetLow (which : Source) (s : State) : (changeSource which s).resetLow = s.resetLow := rfl

theorem keeps_sourceSelect (source : Nat) : Keeps (execSourceSelect source) := by
  refine keeps_request fun s h => ?_
  dsimp only
  split_ifs with h1 h2 h3
  · exact h
  · exact h
  · exact h.of (h.sourceSelected h3) rfl
  · exact h

theorem keeps_sourceQuery : Keeps execSourceQuery := keeps_reading fun _ => rfl

theorem keeps_trimCal (source : Nat) (trim : Int) : Keeps (execTrimCal source trim) := by
  refine keeps_request fun s h => ?_
  dsimp only
  split
  · exact h
  · exact h.of (h.trimStored (sourceOf source) (clampTrim_le trim) rfl) (by dsimp only [Machine.accept]; split_ifs <;> rfl)

theorem keeps_startingToRunning (which : Source) : Keeps (execStartingToRunning which) :=
  keeps_event fun _ h hg => h.of ((h.waitEnded (of_decide_eq_true hg).1).raised _) rfl

theorem keeps_extMissingCycle : Keeps execExtMissingCycle := keeps_event fun _ h hg => h.of (h.extMissing hg) rfl

theorem keeps_extActivityLoss : Keeps execExtActivityLoss :=
  keeps_event fun s h hg => h.of (h.extLost (of_decide_eq_true hg).2) (by
    unfold loseExt
    dsimp only
    split_ifs
    · rw [changeSource_resetLow, State.setSrc_resetLow, raiseIf_resetLow]; rfl
    · rfl)

theorem keeps_extActivityReturn : Keeps execExtActivityReturn := keeps_event fun _ h hg => h.of (h.extReturned (of_decide_eq_true hg)) rfl

/-- The counting of a cycle leaves RESET's level as it was. -/
theorem countCycle_resetLow (which : Source) (s : State) : (countCycle which s).resetLow = s.resetLow := by
  obtain ⟨_, _, -, heq⟩ := countTicks_eq ((s.tb.frac + cycleAmount which s.tb.trim) / fracUnit)
    { s with tb := { s.tb with frac := (s.tb.frac + cycleAmount which s.tb.trim) % fracUnit } }
  rw [countCycle, heq]

/-- Counting leaves RESET's level as it was. -/
theorem countIfDriving_resetLow (which : Source) (s : State) : (countIfDriving which s).resetLow = s.resetLow := by
  unfold countIfDriving
  split_ifs
  · exact countCycle_resetLow which s
  · rfl

theorem keeps_sourceCycle (which : Source) : Keeps (execSourceCycle which) := by
  intro s t h ht
  rw [execSourceCycle, live_next h.up] at ht
  cases ht
  dsimp only
  split
  · exact h.of ((h.cycled .xo fun he => h.sources.2.2.2.2.2 he).driven .xo) (countIfDriving_resetLow _ _)
  · split_ifs with h1 h2
    · exact h
    · exact h.of (h.extReturned h2) rfl
    · exact h.of ((h.cycled .ext fun _ => rfl).driven .ext) (countIfDriving_resetLow _ _)

/-! ### The reference -/

theorem putPt_resetLow (v : Int) (s : State) : (s.putPt v).resetLow = s.resetLow := by rw [(putPt_spec s v).2]

theorem stepPt_resetLow (a : Int) (s : State) : (stepPt a s).resetLow = s.resetLow := by
  rw [(stepPt_spec s a).keeps.1]
  exact putPt_resetLow _ s

/-- An accepted edge leaves RESET's level as it was. -/
theorem takeEdge_resetLow (e : Int) (period : Nat) (s : State) : (takeEdge e period s).resetLow = s.resetLow := by
  unfold takeEdge
  split
  · rfl
  · rfl
  · dsimp only
    split_ifs
    · rw [raiseIf_resetLow, State.setTb_resetLow, stepPt_resetLow]; rfl
    · rw [raiseIf_resetLow]; rfl
  · rw [raiseIf_resetLow]; rfl

theorem qualifyEdge_resetLow (adj : Int) (s : State) : (qualifyEdge adj s).resetLow = s.resetLow := by
  unfold qualifyEdge
  split
  · rfl
  · dsimp only
    split_ifs
    · rw [completeQualification, takeEdge_resetLow, State.setTb_resetLow, raise_resetLow, State.setRef_resetLow, raiseIf_resetLow]; rfl
    · rw [raiseIf_resetLow]; rfl

theorem presentEdge_resetLow (adj : Int) (s : State) : (presentEdge adj s).resetLow = s.resetLow := by
  unfold presentEdge
  split_ifs
  · rw [takeEdge_resetLow]; rfl
  · rfl

theorem keeps_refEdge (c : LevelChange) : Keeps (execRefEdge c) := by
  refine keeps_event fun s h _ => ?_
  dsimp only
  split
  · next hst => exact h.of (h.firstEdge hst _) rfl
  · next hst => exact h.of (h.qualifyEdged hst _) (qualifyEdge_resetLow _ s)
  · next hst => exact h.of (h.presentEdged hst _) (presentEdge_resetLow _ s)

theorem keeps_refWindowClose : Keeps execRefWindowClose := by
  refine keeps_event fun s h hg => ?_
  have hst : s.ref.state = .present := of_decide_eq_true (Bool.and_eq_true_iff.mp (Bool.and_eq_true_iff.mp hg).1).1
  exact h.of (h.missed hst) (by unfold missEdge; dsimp only; split_ifs <;> rfl)

theorem keeps_refConfig (polarity filter : Nat) (delay : Int) (expected : Nat) : Keeps (execRefConfig polarity filter delay expected) := by
  refine keeps_request fun s h => ?_
  dsimp only
  split
  · exact h
  · next hok =>
    have hr := (h.ref_laws.delayed (clampInt (-delayRange expected) (delayRange expected) delay - s.ref.delay)).configured (polarity == 1)
      (show filter ≤ 3 by omega) (show expected ≤ 10 by omega) (clamped_delay expected delay)
    refine h.of (h.refConfigured hr ?_ _) (by dsimp only [Machine.accept]; split_ifs <;> rfl)
    unfold RefMon.delayed
    split <;> rfl

theorem keeps_refQuery : Keeps execRefQuery := keeps_reading fun _ => rfl

/-! ### The Timebase -/

theorem keeps_timeSet (time : Nat) : Keeps (execTimeSet time) := by
  refine keeps_request fun s h => ?_
  dsimp only
  split
  · exact h
  · have hmoved := h.placed (time + s.timeAdjust time)
    have hup : (movePt (time + s.timeAdjust time) s).resetLow = s.resetLow := putPt_resetLow _ s
    dsimp only [Machine.accept]
    split_ifs with hset
    · exact h.of (hmoved.discontinued ((movePt_set _ s).trans hset)) ((discontinuity_touch _).keeps.1.trans hup)
    · exact h.of hmoved.firstSet ((firstTimeSet_touch _).keeps.1.trans hup)

theorem keeps_timeGet : Keeps execTimeGet := keeps_reading fun _ => rfl

theorem keeps_holdoverExpiry : Keeps execHoldoverExpiry :=
  keeps_event fun _ h hg => h.of (h.holdoverEnded ((Timebase.overLimit_iff _).mp (Bool.and_eq_true_iff.mp hg).1).1) rfl

theorem keeps_disciplineConfig (enable : Nat) (window threshold : Int) (limit : Nat) : Keeps (execDisciplineConfig enable window threshold limit) := by
  refine keeps_request fun s h => ?_
  dsimp only
  split
  · exact h
  · obtain ⟨hset, hview⟩ := ({ s.tb with window := clampInt 27 27000 window, threshold := clampInt 540 540000 threshold, limit := clampNat 10 86400 limit }
        : Timebase).switched_set (enable == 1) s.selectedCal
    refine h.of (h.disciplined ((h.settings window threshold limit).switched (h.cal_le _) (enable == 1)) hset hview) ?_
    dsimp only [Machine.accept]
    split_ifs <;> rfl

theorem keeps_tbQuery : Keeps execTbQuery := keeps_reading fun _ => rfl

/-! ### Mark inputs -/

theorem keeps_markEdge (input : Nat) (c : LevelChange) : Keeps (execMarkEdge input c) := by
  refine keeps_event fun s h hg => ?_
  have hst : (s.mark input).state = .armed := of_decide_eq_true (Bool.and_eq_true_iff.mp hg).2
  have hok := MarkInput.accept_ok (h.mark_ok input) hst
  dsimp only
  split
  · next hcap =>
    have hset : s.tb.set = true := (Bool.and_eq_true_iff.mp (Bool.and_eq_true_iff.mp hcap).1).2
    exact h.of ((h.markWritten input (MarkInput.capture_ok hok _) fun hu => absurd (hset.symm.trans hu) (by decide)).raisedIf _ _) (raiseIf_resetLow _ _ _)
  · exact h.of (h.markWritten input hok fun hu => h.mark_unset input hu) rfl

theorem keeps_holdoffEnd (input : Nat) : Keeps (execHoldoffEnd input) := by
  refine keeps_event fun s h hg => ?_
  obtain ⟨hrest, hrem⟩ := Bool.and_eq_true_iff.mp hg
  exact h.of (h.holdoffEnded input (of_decide_eq_true (Bool.and_eq_true_iff.mp hrest).2) (beq_iff_eq.mp hrem)) rfl

theorem keeps_markExpiry (input : Nat) : Keeps (execMarkExpiry input) :=
  keeps_event fun _ h _ => h.of ((h.marksLeft input List.filter_sublist).raised _) rfl

theorem keeps_markConfig (input enable edge filter holdoff decimation window : Nat) :
    Keeps (execMarkConfig input enable edge filter holdoff decimation window) := by
  refine keeps_request fun s h => ?_
  dsimp only
  split
  · exact h
  · next hok =>
    exact h.of ((h.markConfigured input (MarkInput.configured_ok (h.mark_ok input) edge holdoff decimation window (by omega) (by omega)) rfl _).raisedIf _ _)
      (raiseIf_resetLow _ _ _)

theorem keeps_markQuery (input : Nat) : Keeps (execMarkQuery input) := keeps_reading fun s => by dsimp only; split <;> rfl

/-! ### The line -/

theorem keeps_rxdByte (b : Byte) : Keeps (execRxdByte b) := by
  refine keeps_event fun s h hg => h.of (h.byteTaken b (by simpa using hg)) ?_
  unfold joinQueue
  split
  · rfl
  · split_ifs <;> rfl

theorem keeps_framingError (brk : Bool) : Keeps (execFramingError brk) := keeps_event fun _ h _ => h.of (h.framed brk) rfl

theorem keeps_rxdReturnsHigh : Keeps execRxdReturnsHigh := keeps_event fun _ h _ => h.of h.lineHigh rfl

theorem keeps_interByteTimeout (gap : Nat) : Keeps (execInterByteTimeout gap) :=
  keeps_event fun _ h _ => h.of (h.gapped gap) (by dsimp only; split_ifs <;> rfl)

theorem keeps_identify : Keeps execIdentify := keeps_reading fun _ => rfl

theorem keeps_status : Keeps execStatus := keeps_reading fun _ => rfl

theorem keeps_restart : Keeps execRestart := keeps_request fun _ h => h.of h.restartTaken rfl

theorem keeps_replySent : Keeps execReplySent := keeps_event fun _ h _ => h.of h.replySent rfl

/-- A filled bank reads the same at any number, the record it has not too. -/
theorem Bank.get_filled {α : Type} {n : Nat} (a : α) (i : Nat) : (Bank.fill n a).get i a = a := by
  rcases Nat.lt_or_ge i n with hi | hi
  · exact Bank.get_fill a hi a
  · exact Bank.get_out _ hi a

/-- RESTART keeps every law (R182). -/
theorem State.Laws.restarted {s : State} (h : s.Laws) : s.restarted.Laws := by
  have hcue : ∀ i, s.restarted.cue i = none := Bank.get_filled none
  have hdevice : ∀ i, s.restarted.device i = none := Bank.get_filled none
  have hlane : ∀ l ∈ s.restarted.lanes.list, ∃ x : Lane, l = x.freed := fun l hl => by
    obtain ⟨x, -, rfl⟩ := Bank.mem_map.mp hl
    exact ⟨x, rfl⟩
  obtain ⟨hrate, -, hhunter, hwait, -, hbreak⟩ := h.link
  exact { h with
    attn := fun f hf => by rw [Bank.mem_fill hf]; decide
    link := ⟨hrate, Nat.zero_le _, hhunter, hwait, fun hc => (by cases hc), hbreak⟩
    lanes := fun l hl => by
      obtain ⟨x, rfl⟩ := hlane l hl
      exact ⟨fun _ => rfl, fun hst => absurd rfl hst⟩
    names := ⟨fun d hd x hx => (by rw [Bank.mem_fill hd] at hx; cases hx), fun c hc x hx => (by rw [Bank.mem_fill hc] at hx; cases hx),
      fun f hf i hi => (by rw [Bank.mem_fill hf] at hi; cases hi)⟩
    fps := fun f hf => by rw [Bank.mem_fill hf]; decide
    marks := fun m hm => by rw [Bank.mem_fill hm]; decide
    devices := by
      refine ⟨fun d hd x hx => (by rw [Bank.mem_fill hd] at hx; cases hx), ?_⟩
      change ((Bank.fill 32 none).list.filterMap fun d : Option Device => d.bind Device.input).Nodup
      decide
    dues := ⟨List.nodup_nil, List.Pairwise.nil, fun i hi => (by cases hi), fun i _ c hc => (by rw [hcue] at hc; cases hc)⟩
    lines := fun j hj i hi => by
      have hline : s.restarted.line j = .reset := Bank.get_fill _ (List.mem_range.mp hj) _
      rw [hline] at hi; cases hi
    cues := fun c hc x hx => by rw [Bank.mem_fill hc] at hx; cases hx
    owners := ⟨fun n _ d hd => (by rw [hdevice] at hd; cases hd), fun i _ c hc => (by rw [hcue] at hc; cases hc)⟩
    unset := fun _ => ⟨fun l hl => (by obtain ⟨x, rfl⟩ := hlane l hl; exact ⟨Or.inl rfl, rfl⟩), fun m hm => (by rw [Bank.mem_fill hm]; rfl),
      fun d hd x hx => (by rw [Bank.mem_fill hd] at hx; cases hx), rfl, fun c hc x hx => (by rw [Bank.mem_fill hc] at hx; cases hx)⟩ }

theorem keeps_restartEffect : Keeps execRestartEffect := keeps_event fun _ h _ => h.of h.restarted rfl

end Sys2Proof.Machine
end

section
/-! The laws and the commands of the Cue Scheduler and the Device Tracker (Chapters 7 and 8). -/

namespace Sys2Proof.Machine

/-! ### A FREE slot filled -/

section
variable {s : State} {slot : Nat} {e : Cue}

/-- A slot filled with a SUSPENDED cue keeps every law but that of the owners (R144). -/
theorem State.LawsApart.slotSuspended (h : s.LawsApart) (hslot : slot < 64) (hfree : s.cue slot = none) (he : e.ok) (hst : e.state = .suspended)
    (hdue : e.due = none) (hlane : ∀ i ∈ e.anchor.lane?, (s.lane i).state ≠ .free) : (s.setCue slot (some e)).LawsApart := by
  have hout : s.dues.filter (· ≠ slot) = s.dues := List.filter_eq_self.mpr fun j hj => by
    have hin := h.dues.2.2.1 j hj
    simp only [ne_eq, decide_eq_true_eq]
    rintro rfl
    rw [hfree] at hin; cases hin
  have hplaced : s.Placed slot (some e) (s.dues.filter (· ≠ slot)) :=
    Or.inl ⟨rfl, fun x hx => by cases hx; exact ⟨by simp [Cue.listed, hst], hdue⟩⟩
  rw [hout] at hplaced
  exact h.scheduled hslot hplaced (held_of_not_pulsing h.lines (fun y hy => by rw [hfree] at hy; cases hy) _) (fun x hx => by cases hx; exact he)
    (fun x hx => by cases hx; exact hlane) fun hu => ⟨(h.unset hu).2.2.2.1, fun x hx => by cases hx; exact hst⟩

/-- A slot filled with a WAITING cue keeps every law but that of the owners, the time SET (R144, R145). -/
theorem State.LawsApart.slotEntered (h : s.LawsApart) (hset : s.tb.set = true) (hslot : slot < 64) (hfree : s.cue slot = none) (he : e.ok)
    (hst : e.state = .waiting) (hlane : ∀ i ∈ e.anchor.lane?, (s.lane i).state ≠ .free) (due : Nat) : (enterDues slot e due s).LawsApart :=
  h.scheduled hslot (Or.inr ⟨_, due, rfl, by simp [Cue.listed, hst], rfl, rfl⟩)
    (held_of_not_pulsing h.lines (fun y hy => by rw [hfree] at hy; cases hy) _) (fun x hx => by cases hx; exact he)
    (fun x hx => by cases hx; exact hlane) fun hu => absurd (hset.symm.trans hu) (by decide)

/-- The owners after a FREE slot has been filled with a cue that no device owns. -/
theorem State.ownersOk_filled (h : s.ownersOk) (hslot : slot < 64) (hfree : s.cue slot = none) (hown : e.owner = none) {dues : List Nat}
    {lines : Bank Line 8} : (s.scheduled (s.cues.put slot (some e)) dues lines).ownersOk :=
  State.ownersOk_scheduled h hslot fun n => by simp [hfree, hown]

/-- A cue taken in a FREE slot that no device owns keeps every law, SUSPENDED or with its due (R144). -/
theorem State.Laws.cueTaken (h : s.Laws) (hslot : slot < 64) (hfree : s.cue slot = none) (he : e.ok) (hst : e.state = .suspended) (hown : e.owner = none)
    (hlane : ∀ i ∈ e.anchor.lane?, (s.lane i).state ≠ .free) :
    (s.setCue slot (some { e with state := .suspended, due := none })).Laws
      ∧ ∀ due, s.tb.set = true → (setDue slot { e with state := .waiting } due s).Laws := by
  obtain ⟨h1, h2, h3, h4, h5, h6, h7, h8, h9⟩ := he
  have hleft := h6 (by rw [hst]; decide)
  refine ⟨{ h.toLawsApart.slotSuspended hslot hfree (e := { e with state := .suspended, due := none }) ⟨h1, h2, h3, h4, h5, fun _ => hleft, h7, h8, h9⟩ rfl rfl hlane with
    owners := State.ownersOk_filled (e := { e with state := .suspended, due := none }) h.owners hslot hfree hown }, fun due hset => ?_⟩
  have hentered : (enterDues slot { e with state := .waiting } due s).Laws :=
    { h.toLawsApart.slotEntered hset hslot hfree (e := { e with state := .waiting }) ⟨h1, h2, h3, h4, h5, fun _ => hleft, h7, h8, h9⟩ rfl hlane due with
      owners := State.ownersOk_filled (e := { e with state := .waiting, due := some due }) h.owners hslot hfree hown }
  unfold setDue
  dsimp only
  split_ifs
  · exact hentered.late hset slot
  · exact hentered

end

/-! ### CUE_ADD -/

section
variable {s : State} {c : Cue} {m : Conds}

/-- What the anchor brought in keeps: its lane. -/
theorem bringAnchor_lane {a b : Anchor} {cur : Option Int} (h : s.bringAnchor a = .done m (b, cur)) : b.lane? = a.lane? := by
  cases a with
  | absolute pt => cases h; rfl
  | label i p o =>
    rw [State.bringAnchor] at h
    obtain ⟨_, p', _, -, hd, -⟩ := Conv.bind_done h
    cases hd; rfl
  | sample i pos => cases h; rfl

/-- A first due found: the cue with the anchor and the current anchor it holds, and a due only of a time that is SET (R144). -/
theorem firstDue_done {e : Cue} {x : Option Nat} (h : s.firstDue c = .done m (e, x)) :
    ∃ a cur, e = { c with anchor := a, current := cur } ∧ a.lane? = c.anchor.lane? ∧ (x.isSome = true → s.tb.set = true) := by
  unfold State.firstDue at h
  obtain ⟨m₁, ⟨a, cur⟩, m₂, hb, hd, -⟩ := Conv.bind_done h
  have hlane := bringAnchor_lane hb
  dsimp only at hd
  split at hd
  · cases hd; exact ⟨a, cur, rfl, hlane, fun hx => by cases hx⟩
  · next hset =>
    have hs : s.tb.set = true := by
      simp only [Bool.or_eq_true, Bool.not_eq_true', decide_eq_true_eq, not_or, Bool.not_eq_false] at hset
      exact hset.1
    obtain ⟨m₃, f, m₄, -, hd, -⟩ := Conv.bind_done hd
    split at hd
    · cases hd; exact ⟨a, f.current, rfl, hlane, fun hx => by cases hx⟩
    · cases hd; exact ⟨a, f.current, rfl, hlane, fun _ => hs⟩

/-- A cue that no device owns, set up in a FREE slot, keeps every law (R144, R156). -/
theorem State.Laws.admitted (h : s.Laws) {slot : Nat} (hslot : slot < 64) (hfree : s.cue slot = none) (hc : c.ok) (hst : c.state = .suspended)
    (hown : c.owner = none) (hlane : ∀ i ∈ c.anchor.lane?, (s.lane i).state ≠ .free) : (admitCue slot c s).1.Laws := by
  have hnoted : Noted s (stickOpt c.anchor.lane? (s.firstDue c).met s) := Noted.refl.stickOpt _ _
  have hu := hnoted.laws h
  obtain ⟨hcues, -, -, -, htb, -⟩ := hnoted.keeps
  have hfree' : (stickOpt c.anchor.lane? (s.firstDue c).met s).cue slot = none := by rw [State.cue, hcues]; exact hfree
  have hlane' : ∀ i ∈ c.anchor.lane?, ((stickOpt c.anchor.lane? (s.firstDue c).met s).lane i).state ≠ .free :=
    fun i hi => by rw [hnoted.lane i]; exact hlane i hi
  obtain ⟨h1, h2, h3, h4, h5, h6, h7, h8, h9⟩ := hc
  have htaken := fun (a : Anchor) (cur : Option Int) (ha : a.lane? = c.anchor.lane?) =>
    hu.cueTaken (e := { c with anchor := a, current := cur }) hslot hfree' ⟨h1, h2, h3, h4, h5, h6, h7, fun i hi => h8 i (ha ▸ hi), fun ho => (by rw [hown] at ho; cases ho)⟩
      hst hown fun i hi => hlane' i (ha ▸ hi)
  unfold admitCue
  dsimp only
  split
  · exact hu
  · next e hd =>
    obtain ⟨a, cur, rfl, ha, -⟩ := firstDue_done hd
    exact (htaken a cur ha).1
  · next e due hd =>
    obtain ⟨a, cur, rfl, ha, hx⟩ := firstDue_done hd
    exact (htaken a cur ha).2 due (by rw [htb]; exact hx rfl)

/-- A cue that a CUE_ADD sets up under the checks of R143 is in range. -/
theorem newCue_ok (a : Anchor) (action : Nat) (width : Int) (line flag count interval late : Nat) (hline : action = 0 ∨ line ≤ 7)
    (ha : ∀ i ∈ a.lane?, i ≤ 15) : (newCue a action width line flag count interval late).ok := by
  obtain ⟨hw1, hw2⟩ := clampNat_range (lo := 54) (hi := 54000000) (by omega) width
  refine ⟨hw1, hw2, fun j hj => ?_, fun hact => ?_, fun n hn => ?_, fun _ => ⟨?_, rfl⟩, fun b hb => (by cases hb), ha, fun ho => (by cases ho)⟩
  · simp only [newCue] at hj
    split_ifs at hj with h0
    · cases hj
    · cases hj; exact hline.resolve_left h0
  · have h0 : action ≠ 0 := by rintro rfl; exact hact rfl
    simp [newCue, h0]
  · simp only [newCue] at hn ⊢
    split_ifs at hn with hc
    · cases hn
    · cases hn; exact le_refl _
  · simp only [Cue.further, newCue]
    split_ifs <;> simp

/-- The checks of R143 on the operands alone, the ones that the cue's range needs. -/
theorem addOk_range {kind lane : Nat} {label : Label} {position : Int} {action line flag count interval late : Nat}
    (h : addOk kind lane label position action line flag count interval late = true) : (action = 0 ∨ line ≤ 7) ∧ (kind = 0 ∨ lane ≤ 15) := by
  simp only [addOk, Bool.and_eq_true, Bool.or_eq_true, beq_iff_eq, decide_eq_true_eq] at h
  obtain ⟨⟨⟨⟨⟨⟨⟨⟨-, -⟩, hline⟩, -⟩, -⟩, hlane⟩, -⟩, -⟩, -⟩ := h
  exact ⟨hline, hlane⟩

theorem anchorOf_lane (kind pt lane : Nat) (label : Label) (offset position : Int) :
    (anchorOf kind pt lane label offset position).lane? = if kind = 0 then none else some lane := by
  unfold anchorOf
  split_ifs <;> rfl

end

theorem admitCue_resetLow (slot : Nat) (c : Cue) (s : State) : (admitCue slot c s).1.resetLow = s.resetLow := (admitCue_touch s slot c).keeps.1

theorem keeps_cueAdd (slot kind pt lane : Nat) (label : Label) (offset position : Int) (action : Nat) (width : Int)
    (line flag count interval late : Nat) :
    Keeps (execCueAdd slot kind pt lane label offset position action width line flag count interval late) := by
  refine keeps_request fun s h => ?_
  dsimp only
  split_ifs with h1 h2 h3 h4
  · exact h
  · exact h
  · exact h
  · exact h
  obtain ⟨hslot, hok⟩ : slot < 64 ∧ addOk kind lane label position action line flag count interval late = true := by simpa [slotOk] using h1
  obtain ⟨hline, hlane⟩ := addOk_range hok
  have hfree : s.cue slot = none := Option.not_isSome_iff_eq_none.mp h2
  have hlanes : ∀ i ∈ (anchorOf kind pt lane label offset position).lane?, i ≤ 15 := fun i hi => by
    rw [anchorOf_lane] at hi
    split_ifs at hi with hk
    · cases hi
    · cases hi; exact hlane.resolve_left hk
  have hadmitted := h.admitted (c := newCue (anchorOf kind pt lane label offset position) action width line flag count
    (s.intervalTaken (anchorOf kind pt lane label offset position) interval) late) hslot hfree (newCue_ok _ _ _ _ _ _ _ _ hline hlanes) rfl rfl
    fun i hi hc => h3 ((Option.any_eq_true _ _).mpr ⟨i, hi, decide_eq_true hc⟩)
  split <;> exact h.of hadmitted (admitCue_resetLow _ _ _)

/-! ### CUE_CANCEL, CUE_MODIFY, reads and events -/

theorem reportGone_resetLow (owner : Option Nat) (completed : Bool) (s : State) : (reportGone owner completed s).resetLow = s.resetLow :=
  (reportGone_touch s owner completed).keeps.1

theorem keeps_cueCancel (slot : Nat) : Keeps (execCueCancel slot) := by
  refine keeps_request fun s h => ?_
  split
  · exact h
  split
  · exact h
  · next c hc => exact h.of (h.cancelled hc) ((reportGone_resetLow _ _ _).trans (freeSlot_touch s slot).keeps.1)

theorem keeps_cueModify (slot : Nat) (width : Int) (interval action : Nat) : Keeps (execCueModify slot width interval action) := by
  refine keeps_request fun s h => ?_
  dsimp only
  split
  · exact h
  split
  · exact h
  · next c hc =>
    split
    · exact h
    next hown =>
    split
    · exact h
    split
    · exact h
    next hok =>
    have hline : actionOf action ≠ .none → c.line.isSome = true := fun hact => by
      have h0 : action ≠ 0 := by rintro rfl; exact hact rfl
      refine Option.isSome_iff_ne_none.mpr fun hno => hok ?_
      rw [(modifyOk_iff c interval action).mpr (Or.inl ⟨h0, hno⟩)]; rfl
    exact h.of (h.staged hc (Option.not_isSome_iff_eq_none.mp hown) (b := ⟨pulseWidth width, s.intervalTaken c.anchor interval, actionOf action⟩)
      ⟨(clampNat_range (by omega) width).1, (clampNat_range (by omega) width).2, hline⟩) rfl

theorem keeps_cueQuery (slot : Nat) : Keeps (execCueQuery slot) := keeps_reading fun s => by split <;> rfl

theorem keeps_cueList (start : Nat) : Keeps (execCueList start) := keeps_reading fun s => by dsimp only; split <;> rfl

/-- A cue in the due list is one of a time that is SET. -/
theorem State.LawsApart.set_of_due {s : State} (h : s.LawsApart) {i : Nat} (hi : i ∈ s.dues) : s.tb.set = true := by
  rw [← Bool.not_eq_false]
  intro hu
  rw [(h.unset hu).2.2.2.1] at hi; cases hi

theorem keeps_cueDue : Keeps execCueDue := by
  refine keeps_event fun s h hg => ?_
  obtain ⟨i, hi, -⟩ := (Option.any_eq_true _ _).mp (Bool.and_eq_true_iff.mp hg).2
  exact h.of (h.fired (h.set_of_due (List.mem_of_mem_head? hi)) _) (fireCue_touch s _).keeps.1

theorem endPulse_resetLow (slot : Nat) (s : State) : (endPulse slot s).resetLow = s.resetLow := by
  unfold endPulse
  split
  · rfl
  · next c _ =>
    dsimp only
    have hline := (releaseLine_touch s slot c.line).keeps.1
    split_ifs
    · exact hline
    · exact (reportGone_resetLow _ _ _).trans hline

theorem keeps_cuePulseEnd (slot : Nat) : Keeps (execCuePulseEnd slot) := by
  refine keeps_event fun s h hg => h.of (h.pulseEnded fun c hc => ?_) (endPulse_resetLow slot s)
  obtain ⟨e, he, hover⟩ := (Option.any_eq_true _ _).mp (Bool.and_eq_true_iff.mp hg).2
  rw [he] at hc; cases hc
  obtain ⟨hp, hr⟩ := Bool.and_eq_true_iff.mp hover
  exact ⟨of_decide_eq_true hp, beq_iff_eq.mp hr⟩

theorem keeps_outputSet (line idle drive : Nat) : Keeps (execOutputSet line idle drive) := by
  refine keeps_request fun s h => ?_
  dsimp only
  split
  · exact h
  · refine h.of (h.lineWritten line fun i hi => ?_) rfl
    unfold Line.written at hi
    dsimp only at hi
    split_ifs at hi <;> first | exact hi | cases hi

theorem keeps_outputQuery (line : Nat) : Keeps (execOutputQuery line) := keeps_reading fun s => by dsimp only; split <;> rfl

end Sys2Proof.Machine
end

section
/-! The laws and the commands of the Device Tracker (Chapter 7). -/

namespace Sys2Proof.Machine

/-! ### Labels of indices and the occurrence NEXT finds -/

/-- A part that meets nothing adds nothing to the part after it. -/
theorem Conv.none_bind {α β : Type} (a : α) (f : α → Conv β) : (Conv.done .none a).bind f = f a := by
  unfold Conv.bind
  dsimp only
  cases f a <;> simp [Conds.or, Conds.none]

section
variable {l : Lane}

/-- A well-formed label has no ANY. -/
theorem Lane.wellFormed_not_wild {lab : Label} (hwf : l.wellFormed lab = true) : patternWild lab = false := by
  obtain ⟨hh, hm, hs, -⟩ := Lane.wellFormed_iff.mp hwf
  have hno : ∀ v : Nat, v < 60 → (v == anyField) = false := fun v hv => by rw [beq_eq_false_iff_ne, anyField]; omega
  rw [patternWild, hno _ (by omega), hno _ hm, hno _ hs]; rfl

/-- The label of an index is one of the day: well-formed, existing and of the index's count (R12). -/
theorem Lane.labelAt_ok (h : l.rateOk) (k : Int) :
    l.wellFormed (l.labelAt k) = true ∧ l.labelExists (l.labelAt k) = true ∧ l.countOf (l.labelAt k) = l.countAt k :=
  Lane.label_of_count h (wrap_lt h.nDay_pos (l.map.rawCount k))

/-- A label that exists is brought in as it is. -/
theorem Lane.bring_exists {lab : Label} (hex : l.labelExists lab = true) : l.bring lab = .done .none lab := by
  rw [Lane.bring, if_pos (by rw [Lane.patternExists, hex, Bool.or_true])]

/-- A quotient rounded up, times its divisor, reaches the dividend. -/
theorem le_ceilDiv_mul (a : Int) {b : Int} (hb : 0 < b) : a ≤ ceilDiv a b * b := by
  have hdiv := Int.mul_ediv_add_emod (-a) b
  have hge := Int.emod_nonneg (-a) hb.ne'
  have : ceilDiv a b * b = -(b * (-a / b)) := by rw [ceilDiv]; ring
  omega

theorem Lane.rateOk.dayTicks_pos (h : l.rateOk) : 0 < l.dayTicks := by
  have := h.period_ge
  exact Int.mul_pos (by have := h.nDay_pos; omega) (by omega)

/-- NEXT finds an occurrence at or after its reference (R14). -/
theorem Lane.nextOccurrence_ge (h : l.rateOk) (c : Nat) (o r : Int) : r ≤ l.nextOccurrence c o r := by
  have := le_ceilDiv_mul (r - l.baseOccurrence c o) h.dayTicks_pos
  rw [Lane.nextOccurrence]
  omega

/-- A result at or after a PT is one after the range check too (R15). -/
theorem Lane.checkPt_ge {v : Int} {m : Conds} {t r : Nat} (h : l.checkPt v = .done m t) (hr : r < ptLimit) (hv : (r : Int) ≤ v) : r ≤ t := by
  unfold Lane.checkPt Lane.meet at h
  split_ifs at h with h1 h2 h3
  · cases h; omega
  · omega
  · cases h; omega

end

/-! ### Devices without a cue -/

section
variable {s : State} {n : Nat}

/-- The owners after a device without a cue has been written, or a slot filled or emptied, that has none either. -/
theorem State.Laws.owners_cueless (h : s.Laws) {x : Option Device} (hd : ∀ d ∈ s.device n, d.cue = none) (hx : ∀ e ∈ x, e.cue = none) :
    (s.setDevice n x).ownersOk := by
  refine ⟨fun m hm f hf i hi => ?_, fun i hi c hc m hm => ?_⟩
  · by_cases hmn : m = n
    · subst hmn
      rw [State.device_setDevice_same (List.mem_range.mp hm)] at hf
      rw [hx f hf] at hi; cases hi
    · rw [State.device_setDevice_ne hmn] at hf
      exact h.owners.1 m hm f hf i hi
  · obtain ⟨d, hdm, hdc⟩ := h.owned.2 c hc hm
    have hmn : m ≠ n := by rintro rfl; rw [hd d hdm] at hdc; cases hdc
    rw [State.device_setDevice_ne hmn]
    exact h.owners.2 i hi c hc m hm

/-! ### DEVICE_REGISTER -/

theorem freeDevice_spec (hf : s.freeDevice = some n) : n < 32 ∧ s.device n = none := by
  have hmem := List.mem_of_find?_eq_some hf
  have hnone := List.find?_some hf
  exact ⟨List.mem_range.mp hmem, Option.isNone_iff_eq_none.mp hnone⟩

/-- A numeric setting lies in its range (R118). -/
theorem setting_range {allSet default lo hi : Int} (hd : lo ≤ default ∧ default ≤ hi) (v : Int) :
    lo ≤ setting allSet default lo hi v ∧ setting allSet default lo hi v ≤ hi := by
  rw [setting_eq (by omega)]
  split_ifs <;> omega

/-- A device registered under the checks of R118 keeps the laws of a device. -/
theorem newDevice_laws {kind lane input position span silence policy line : Nat} {outlier offsetTol driftTol width : Int}
    (h : registerOk kind lane input position policy line = true) :
    (newDevice kind lane input position outlier offsetTol driftTol span silence policy line width).Laws := by
  obtain ⟨-, hlane, hinput, -, hpolicy⟩ := (registerOk_iff kind lane input position policy line).mp h
  have h1 := setting_range (allSet := -1) (default := 27000) (lo := 54) (hi := 1080000) (by omega) outlier
  have h2 := setting_range (allSet := -1) (default := 54000) (lo := 0) (hi := 54000000) (by omega) offsetTol
  have h3 := setting_range (allSet := -1) (default := 10000) (lo := 0) (hi := 2000000) (by omega) driftTol
  have h4 := setting_range (allSet := 4294967295) (default := 10) (lo := 1) (hi := 600) (by omega) span
  have h5 := setting_range (allSet := 4294967295) (default := 120) (lo := 1) (hi := 3600) (by omega) silence
  have h6 := setting_range (allSet := -1) (default := 54000) (lo := 54) (hi := 54000000) (by omega) width
  exact {
    settings := by
      refine ⟨hlane, fun i hi => ?_, h1.1, h1.2, h2.1, h2.2, h3.1, h3.2, ?_, ?_, ?_, ?_, fun r hr => ?_⟩
      · simp only [newDevice] at hi
        split_ifs at hi with hnone
        · cases hi
        · cases hi; exact hinput.resolve_right hnone
      · simp only [newDevice]; omega
      · simp only [newDevice]; omega
      · simp only [newDevice]; omega
      · simp only [newDevice]; omega
      · simp only [newDevice] at hr
        split_ifs at hr with hp
        · cases hr
          exact ⟨(hpolicy.resolve_left (by omega)).2, by dsimp only; omega, by dsimp only; omega⟩
        · cases hr
    length := by simp [newDevice]
    top := by simp [newDevice]
    order := by simp [newDevice]
    offset := rfl
    drift := fun v hv => by cases hv
    valid := fun hv => by cases hv
    outliers := by simp [newDevice]
    cue := by simp [newDevice]
    silence := by simp [newDevice, DeviceState.listens]
    unseen := fun _ => rfl
    ringless := fun _ => Or.inl rfl
    left := fun n hn => by cases hn }

theorem keeps_deviceRegister (kind lane input position : Nat) (outlier offsetTol driftTol : Int) (span silence policy line : Nat) (width : Int) :
    Keeps (execDeviceRegister kind lane input position outlier offsetTol driftTol span silence policy line width) := by
  refine keeps_request fun s h => ?_
  dsimp only
  split
  · exact h
  next hok =>
  split
  · exact h
  next n hn =>
  split
  · exact h
  next hst =>
  split
  · exact h
  next htaken =>
  obtain ⟨hlt, hfree⟩ := freeDevice_spec hn
  have hlaws := newDevice_laws (span := span) (silence := silence) (outlier := outlier) (offsetTol := offsetTol) (driftTol := driftTol) (width := width)
    (by simpa using hok : registerOk kind lane input position policy line = true)
  refine h.of { h.toLawsApart.deviceWritten hlt (fun e he => ?_) (fun e he k hk j hj => ?_) with
    owners := h.owners_cueless (fun d hd => by rw [hfree] at hd; cases hd) fun e he => by cases he; rfl } rfl
  · cases he
    exact ⟨hlaws, hst, fun _ => rfl⟩
  · cases he
    simp only [newDevice] at hk
    split_ifs at hk with hnone
    cases hk
    obtain ⟨d, hd, hdk⟩ := Option.bind_eq_some_iff.mp hj
    exact absurd ⟨hnone, (inputTaken_iff s input).mpr ⟨j, State.device_lt hd, d, hd, hdk⟩⟩ htaken

/-! ### DEVICE_REMOVE and DEVICE_RESET_TRACK -/

/-- A request to a device keeps the laws where its effect does on a device that is registered. -/
theorem keeps_withDevice {f : Device → State → State × Answer}
    (hf : ∀ (s : State) d, s.Lives → s.device n = some d → (f d s).1.Lives) : Keeps (request (withDevice n f)) := by
  refine keeps_request fun s h => ?_
  unfold withDevice
  split
  · exact h
  split
  · exact h
  · next d hd => exact hf s d h hd

/-- A device's owned cue cancelled and the device written without one keeps every law (R119, R120). -/
theorem State.Laws.ownedCancelled (h : s.Laws) {d : Device} (hd : s.device n = some d) {x : Option Device}
    (hx : ∀ e ∈ x, e.Laws ∧ e.lane = d.lane ∧ e.input = d.input ∧ e.cue = none ∧ e.ring = []) : ((cancelOwned d s).setDevice n x).Laws := by
  have hn := State.device_lt hd
  have hinput : ∀ e ∈ x, ∀ k, e.input = some k → ∀ j, (s.device j).bind Device.input = some k → j = n := fun e he k hk j hj =>
    inputs_nodup_iff.mp h.devices.2 j n k hj (by rw [show s.devices.get n none = some d from hd, Option.bind_some, ← (hx e he).2.2.1]; exact hk)
  have hwritten : ∀ e ∈ x, e.Laws ∧ (s.lane e.lane).state ≠ .free ∧ (s.tb.set = false → e.ring = []) := fun e he => by
    obtain ⟨hlaws, hlane, -, -, hring⟩ := hx e he
    exact ⟨hlaws, hlane ▸ (h.device_ok hd).2.1, fun _ => hring⟩
  unfold cancelOwned
  split
  · next hno =>
    exact { h.toLawsApart.deviceWritten hn hwritten hinput with
      owners := h.owners_cueless (fun y hy => by rw [hd] at hy; cases hy; exact hno) fun e he => (hx e he).2.2.2.1 }
  · next slot hslot =>
    obtain ⟨c, hc, hown⟩ := h.owned.1 d hd hslot
    rw [freeSlot_scheduled hc]
    have hfreed := h.toLawsApart.slotFreed Noted.refl hc
    exact { hfreed.deviceWritten hn hwritten hinput with owners := h.owners_gone hc hown fun e he => (hx e he).2.2.2.1 }

theorem cancelOwned_resetLow (d : Device) (s : State) : (cancelOwned d s).resetLow = s.resetLow := by
  unfold cancelOwned
  split
  · rfl
  · exact (freeSlot_touch s _).keeps.1

theorem keeps_deviceRemove (n : Nat) : Keeps (execDeviceRemove n) :=
  keeps_withDevice fun s d h hd => h.of (h.ownedCancelled hd fun e he => by cases he) (cancelOwned_resetLow d s)

theorem keeps_deviceResetTrack (n : Nat) : Keeps (execDeviceResetTrack n) :=
  keeps_withDevice fun s d h hd =>
    h.of (h.ownedCancelled hd fun e he => by cases he; exact ⟨(h.device_ok hd).1.cleared, rfl, rfl, rfl, rfl⟩) (cancelOwned_resetLow d s)

/-! ### Silence and reads -/

theorem keeps_deviceSilenceExpiry (n : Nat) : Keeps (execDeviceSilenceExpiry n) := by
  refine keeps_event fun s h hg => ?_
  obtain ⟨d, hd, hsilent⟩ := (Option.any_eq_true _ _).mp (Bool.and_eq_true_iff.mp hg).2
  rw [hd]
  obtain ⟨hlaws, -, hring⟩ := h.device_ok hd
  exact h.of ((h.deviceChanged hd (hlaws.lost (Bool.and_eq_true_iff.mp hsilent).1) rfl rfl rfl hring).raised _) rfl

theorem withDevice_reads {f : Device → State → State × Answer} (hf : ∀ d s, (f d s).1 = s) (n : Nat) (s : State) : (withDevice n f s).1 = s := by
  unfold withDevice
  split
  · rfl
  split
  · rfl
  · exact hf _ s

theorem keeps_deviceQuery (n : Nat) : Keeps (execDeviceQuery n) := keeps_reading (withDevice_reads (fun _ _ => rfl) n)

theorem keeps_deviceRing (n : Nat) : Keeps (execDeviceRing n) := keeps_reading (withDevice_reads (fun _ _ => rfl) n)

/-! ### The re-jam cue -/

theorem freeCue_spec {slot : Nat} (hf : s.freeCue = some slot) : slot < 64 ∧ s.cue slot = none :=
  ⟨List.mem_range.mp (List.mem_of_find?_eq_some hf), Option.isNone_iff_eq_none.mp (List.find?_some (p := fun i => (s.cue i).isNone) hf)⟩

/-- The owners after a device without a cue has been given the FREE slot's (R132, R156). -/
theorem State.Laws.owners_asked (h : s.Laws) {slot : Nat} {d e : Device} {c : Cue} (hslot : slot < 64) (hfree : s.cue slot = none)
    (hd : s.device n = some d) (hno : d.cue = none) (he : e.cue = some slot) (hown : c.owner = some n) {dues : List Nat} {lines : Bank Line 8} :
    ((s.scheduled (s.cues.put slot (some c)) dues lines).setDevice n (some e)).ownersOk := by
  have hn := State.device_lt hd
  have hcue : ∀ {i}, i ≠ slot → ((s.scheduled (s.cues.put slot (some c)) dues lines).setDevice n (some e)).cue i = s.cue i :=
    fun hi => Bank.get_put_ne _ (Ne.symm hi) _ _
  have hslotted : ((s.scheduled (s.cues.put slot (some c)) dues lines).setDevice n (some e)).cue slot = some c := Bank.get_put_same _ hslot _ _
  have hdevice : ∀ {m}, m ≠ n → ((s.scheduled (s.cues.put slot (some c)) dues lines).setDevice n (some e)).device m = s.device m :=
    fun hm => Bank.get_put_ne _ (Ne.symm hm) _ _
  have hasked : ((s.scheduled (s.cues.put slot (some c)) dues lines).setDevice n (some e)).device n = some e := Bank.get_put_same _ hn _ _
  refine ⟨fun m hm f hf i hi => ?_, fun i hi x hx m hm => ?_⟩
  · by_cases hmn : m = n
    · subst hmn
      rw [hasked] at hf; cases hf
      rw [he] at hi; cases hi
      rw [hslotted]; simp [hown]
    · rw [hdevice hmn] at hf
      have hold := h.owners.1 m hm f hf i hi
      have hne : i ≠ slot := by rintro rfl; rw [hfree] at hold; cases hold
      rw [hcue hne]; exact hold
  · by_cases his : i = slot
    · subst his
      rw [hslotted] at hx; cases hx
      rw [hown] at hm; cases hm
      rw [hasked]; simp [he]
    · rw [hcue his] at hx
      obtain ⟨f, hf, hfc⟩ := h.owned.2 x hx hm
      have hmn : m ≠ n := by rintro rfl; rw [hd] at hf; cases hf; rw [hno] at hfc; cases hfc
      rw [hdevice hmn]
      exact h.owners.2 i hi x hx m hm

/-- The cue that a device asks for is in range (R132). -/
theorem rejamCue_ok {d : Device} (h : d.Laws) {line width : Nat} (hr : d.rejam = some (line, width)) (label : Label) : (rejamCue n d line width label).ok := by
  obtain ⟨hline, hw1, hw2⟩ := h.settings.2.2.2.2.2.2.2.2.2.2.2.2 _ hr
  exact ⟨hw1, hw2, fun j hj => (by cases hj; exact hline), fun _ => rfl, fun k hk => (by cases hk; exact le_refl _), fun _ => ⟨by simp [Cue.further, rejamCue], rfl⟩,
    fun b hb => (by cases hb), fun i hi => (by cases hi; exact h.settings.1), fun _ => ⟨rfl, rfl, rfl, rfl, rfl⟩⟩

/-- The due of a cue on a label of the lane's own is not before PT (R14, R156). -/
theorem firstDue_labelAt {i : Nat} {k o : Int} {c e : Cue} {due : Nat} {m : Conds} (hrate : (s.lane i).rateOk) (hpt : s.tb.pt < ptLimit)
    (ha : c.anchor = .label i ((s.lane i).labelAt k) o) (h : s.firstDue c = .done m (e, some due)) : s.tb.pt ≤ due := by
  obtain ⟨hwf, hex, -⟩ := Lane.labelAt_ok hrate k
  have hwild := Lane.wellFormed_not_wild hwf
  unfold State.firstDue State.bringAnchor at h
  rw [ha] at h
  dsimp only at h
  rw [Lane.bring_exists hex, Conv.none_bind, Conv.none_bind] at h
  dsimp only at h
  split at h
  · cases h
  · obtain ⟨m₁, f, m₂, hd, he, -⟩ := Conv.bind_done h
    simp only [State.dueAgainst, hwild, Bool.false_eq_true, if_false] at hd
    obtain ⟨m₃, t, m₄, ht, hf, -⟩ := Conv.bind_done hd
    cases hf
    split at he
    · cases he
    · cases he
      exact Lane.checkPt_ge ht hpt (Lane.nextOccurrence_ge hrate _ _ _)

/-- A device that asks for its re-jam keeps every law, the time SET (R132, R156). -/
theorem State.Laws.rejamAsked (h : s.Laws) (hset : s.tb.set = true) (n : Nat) : (askRejam n s).Laws := by
  unfold askRejam
  split
  · exact h
  next d hd =>
  split
  · exact h
  next line width hr =>
  split
  · exact h
  next hno =>
  split
  · exact h.raised _
  next slot hslot =>
  obtain ⟨hlaws, hlane, -⟩ := h.device_ok hd
  obtain ⟨hlt, hfree⟩ := freeCue_spec hslot
  have hcue : d.cue = none := by
    rw [← Option.not_isSome_iff_eq_none]
    exact fun hc => hno (Or.inr hc)
  dsimp only
  generalize hc : rejamCue n d line width ((s.lane d.lane).labelAt ((s.lane d.lane).rejamIndex s.tb.pt)) = c
  have hcok : c.ok ∧ c.state = .suspended ∧ c.due = none ∧ c.owner = some n
      ∧ c.anchor = .label d.lane ((s.lane d.lane).labelAt ((s.lane d.lane).rejamIndex s.tb.pt)) 0 := by
    rw [← hc]; exact ⟨rejamCue_ok hlaws hr _, rfl, rfl, rfl, rfl⟩
  obtain ⟨⟨h1, h2, h3, h4, h5, h6, h7, h8, h9⟩, hst, hdue, hown, hanchor⟩ := hcok
  have hleft := h6 (by rw [hst]; decide)
  have hlanes : ∀ i ∈ c.anchor.lane?, i = d.lane := fun i hi => by rw [hanchor] at hi; cases hi; rfl
  unfold admitCue
  dsimp only
  generalize hu : stickOpt c.anchor.lane? (s.firstDue c).met s = u
  have hnoted : Noted s u := hu ▸ Noted.refl.stickOpt _ _
  have hul := hnoted.laws h
  obtain ⟨hcues, -, -, hdevices, htb, -⟩ := hnoted.keeps
  have hud : u.device n = some d := by rw [State.device, hdevices]; exact hd
  have huc : u.cue slot = none := by rw [State.cue, hcues]; exact hfree
  have hul' : (u.lane d.lane).state ≠ .free := by rw [hnoted.lane]; exact hlane
  have hun : u.tb.set = false → False := fun hc => by rw [htb, hset] at hc; cases hc
  cases hfd : s.firstDue c with
  | stopped m k => exact hul
  | done m p =>
  obtain ⟨e, x⟩ := p
  obtain ⟨a, cur, rfl, ha, -⟩ := firstDue_done hfd
  have hown9 : c.owner.isSome = true → c.action = .pulse ∧ c.staged = none ∧ c.repeatCount = 0 ∧ c.drop = true ∧ a.lane?.isSome = true := fun ho => by
    rw [ha]; exact h9 ho
  cases x with
  | none =>
    have hok : ({ c with anchor := a, current := cur, state := .suspended, due := none } : Cue).ok :=
      ⟨h1, h2, h3, h4, h5, fun _ => hleft, h7, fun i hi => h8 i (ha ▸ hi), hown9⟩
    dsimp only
    exact { (hul.toLawsApart.slotSuspended hlt huc hok rfl rfl fun i hi => hlanes i (ha ▸ hi) ▸ hul').deviceChanged hud (hlaws.pending slot) rfl rfl
        fun hc => (hun hc).elim with
      owners := hul.owners_asked (c := { c with anchor := a, current := cur, state := .suspended, due := none })
        (e := { d with state := .rejamPending, silenceLeft := none, cue := some slot }) (dues := u.dues) (lines := u.lines) hlt huc hud hcue rfl hown }
  | some due =>
    have hge := firstDue_labelAt (h.lane_laws hlane).rate h.ranges.1 hanchor hfd
    have hok : ({ c with anchor := a, current := cur, state := .waiting } : Cue).ok :=
      ⟨h1, h2, h3, h4, h5, fun _ => hleft, h7, fun i hi => h8 i (ha ▸ hi), hown9⟩
    have hentered := hul.toLawsApart.slotEntered (htb ▸ hset) hlt huc hok rfl (fun i hi => hlanes i (ha ▸ hi) ▸ hul') due
    dsimp only
    rw [setDue, if_neg (by change ¬ due < u.tb.pt; rw [htb]; omega)]
    exact { hentered.deviceChanged hud (hlaws.pending slot) rfl rfl fun hc => (hun hc).elim with
      owners := hul.owners_asked (c := { c with anchor := a, current := cur, state := .waiting, due := some due })
        (e := { d with state := .rejamPending, silenceLeft := none, cue := some slot })
        (dues := placeDue u.dueOf slot due (u.dues.filter (· ≠ slot))) (lines := u.lines) hlt huc hud hcue rfl hown }

theorem askRejam_resetLow (n : Nat) (s : State) : (askRejam n s).resetLow = s.resetLow := by
  unfold askRejam
  split
  · rfl
  split
  · rfl
  split
  · rfl
  split
  · rfl
  dsimp only
  split
  · exact admitCue_resetLow _ _ s
  · exact admitCue_resetLow _ _ s

/-! ### DEVICE_REPORT -/

/-- A report filed keeps every law, the time SET, the instant later than the newest held and no re-jam pending (R126 to R132). -/
theorem State.Laws.reportFiled (h : s.Laws) (hset : s.tb.set = true) {d : Device} (hd : s.device n = some d) {t : Int} (count : Nat) (offset : Int)
    (source : Option Nat) (hst : d.state ≠ .rejamPending) (ht : ∀ o ∈ d.ring.head?, o.pt < t) : (fileReport n d t count offset source s).Laws := by
  obtain ⟨hlane, hinput, hcue, -⟩ := d.observed_keeps t count offset source
  have hobserved := h.deviceChanged hd ((h.device_ok hd).1.observed count offset source hst ht) hlane hinput hcue
    fun hu => absurd (hset.symm.trans hu) (by decide)
  refine State.Laws.rejamAsked ((hobserved.raisedIf _ _).raisedIf _ _) ?_ n
  rw [raiseIf_tb, raiseIf_tb]; exact hset

theorem fileReport_resetLow (n : Nat) (d : Device) (t : Int) (count : Nat) (offset : Int) (source : Option Nat) (s : State) :
    (fileReport n d t count offset source s).resetLow = s.resetLow := by
  unfold fileReport
  dsimp only
  rw [askRejam_resetLow, raiseIf_resetLow, raiseIf_resetLow]; rfl

/-- What the claiming of a mark leaves as it was. -/
theorem claimMark_keeps (input : Option Nat) (k : Option Mark) (s : State) :
    (claimMark input k s).devices = s.devices ∧ (claimMark input k s).tb = s.tb ∧ (claimMark input k s).resetLow = s.resetLow := by
  unfold claimMark
  split <;> exact ⟨rfl, rfl, rfl⟩

theorem keeps_deviceReport (n : Nat) (label : Label) (refKind capture pt : Nat) : Keeps (execDeviceReport n label refKind capture pt) := by
  refine keeps_withDevice fun s d h hd => ?_
  dsimp only
  split
  · exact h
  split
  · exact h
  split
  · exact h
  next hunset =>
  split
  · exact h
  split
  · exact h
  have hset : s.tb.set = true := by simpa using hunset
  generalize s.namedMark d refKind capture = k
  obtain ⟨hdevices, htb, hup⟩ := claimMark_keeps d.input k s
  have hclaimed := h.of (h.claimed d.input k) hup
  split
  · exact hclaimed
  next hnew =>
  split
  · exact h.stuck _ _
  next m count at' _ =>
  have hnoted : Noted (claimMark d.input k s) (stick d.lane m (claimMark d.input k s)) := Noted.refl.stick _ _
  have hu := hclaimed.noted hnoted
  obtain ⟨-, -, -, hud, hutb, -⟩ := hnoted.keeps
  refine hu.of (hu.reportFiled (by rw [hutb, htb]; exact hset) (by rw [State.device, hud, hdevices]; exact hd) _ _ _ (fun hc => hnew (Or.inl hc)) fun o ho => ?_)
    (fileReport_resetLow _ _ _ _ _ _ _)
  by_contra hle
  exact hnew (Or.inr ((Option.any_eq_true _ _).mpr ⟨o, ho, decide_eq_true (by omega)⟩))

end

end Sys2Proof.Machine
end

section
/-! Every step keeps every law: each command from every lawful state. -/

namespace Sys2Proof.Machine

/-! ### Requests and the taking of requests -/

/-- What the owning blocks do with a request keeps the laws. -/
theorem keeps_serve (i : Instr) : Keeps (serve i) := by
  cases i with
  | identify => exact keeps_identify
  | status => exact keeps_status
  | flags => exact keeps_flags
  | ack l => exact keeps_ack l
  | attnEnable l => exact keeps_attnEnable l
  | restart => exact keeps_restart
  | sourceConfig a b c => exact keeps_sourceConfig a b c
  | sourceSelect a => exact keeps_sourceSelect a
  | sourceQuery => exact keeps_sourceQuery
  | trimCal a v => exact keeps_trimCal a v
  | refConfig a b v c => exact keeps_refConfig a b v c
  | refQuery => exact keeps_refQuery
  | timeSet t => exact keeps_timeSet t
  | timeGet => exact keeps_timeGet
  | disciplineConfig a v w b => exact keeps_disciplineConfig a v w b
  | tbQuery => exact keeps_tbQuery
  | laneDefine a b v c d w e f g h l => exact keeps_laneDefine a b v c d w e f g h l
  | laneClear a => exact keeps_laneClear a
  | laneHold a => exact keeps_laneHold a
  | laneSetLabel a l => exact keeps_laneSetLabel a l
  | laneRelease a => exact keeps_laneRelease a
  | laneJam a b => exact keeps_laneJam a b
  | laneConvert a b c l d v w => exact keeps_laneConvert a b c l d v w
  | laneExceptions a b c d e f g h => exact keeps_laneExceptions a b c d e f g h
  | laneQuery a => exact keeps_laneQuery a
  | pulseAssign a b v c d => exact keeps_pulseAssign a b v c d
  | markConfig a b c d e f g => exact keeps_markConfig a b c d e f g
  | markQuery a => exact keeps_markQuery a
  | deviceRegister a b c d u v w e f g h x => exact keeps_deviceRegister a b c d u v w e f g h x
  | deviceRemove a => exact keeps_deviceRemove a
  | deviceResetTrack a => exact keeps_deviceResetTrack a
  | deviceReport a l b c d => exact keeps_deviceReport a l b c d
  | deviceQuery a => exact keeps_deviceQuery a
  | deviceRing a => exact keeps_deviceRing a
  | cueAdd a b c d l v w e x f g h i j => exact keeps_cueAdd a b c d l v w e x f g h i j
  | cueCancel a => exact keeps_cueCancel a
  | cueModify a v b c => exact keeps_cueModify a v b c
  | cueQuery a => exact keeps_cueQuery a
  | cueList a => exact keeps_cueList a
  | outputSet a b c => exact keeps_outputSet a b c
  | outputQuery a => exact keeps_outputQuery a
  | powerOn _ _ | resetAssert | resetRelease _ _ | rxdByte _ | framingError _ | interByteTimeout _ | requestTake | replySent
  | restartEffect | startingToRunning _ | extMissingCycle | extActivityLoss | extActivityReturn | refEdge _ | refWindowClose
  | holdoverExpiry | laneBoundary _ | framePulseEnd _ | markEdge _ _ | holdoffEnd _ | markExpiry _ | deviceSilenceExpiry _
  | cueDue | cuePulseEnd _ | sourceCycle _ | rxdReturnsHigh => exact fun s t h ht => by cases ht; exact h

/-- A frame handled keeps a part that runs (R176). -/
theorem State.Lives.handled {s : State} (h : s.Lives) (fr : Frame) : (handle fr s).Lives := by
  unfold handle
  split
  · exact h.of (h.answered _) rfl
  · exact h.of (h.answered _) rfl
  · next i hi =>
    obtain ⟨t, ht⟩ := exec_next s i
    have hserve : serve i s = .next t := (serve_request (judge_command hi).1 s).1.trans ht
    rw [hserve]
    exact keeps_serve i s t h hserve

theorem keeps_requestTake : Keeps execRequestTake := by
  refine keeps_event fun s h _ => ?_
  unfold takeRequest
  split
  · exact h
  · next fr _ =>
    have hhandled := (h.of h.frameTaken rfl : (s.setLink s.link.taken).Lives).handled fr
    exact hhandled.of (hhandled.replyFormed _) rfl

/-! ### Every command -/

/-- Every command but the power and reset ones keeps the laws of a part that runs. -/
theorem keeps_exec (i : Instr) (hpower : ∀ b1 b0, i ≠ .powerOn b1 b0) (hassert : i ≠ .resetAssert) (hrelease : ∀ b1 b0, i ≠ .resetRelease b1 b0) :
    Keeps (exec i) := by
  by_cases hreq : (requestFields i).isSome = true
  · intro s t h ht
    exact keeps_serve i s t h ((serve_request hreq s).1.trans ht)
  · cases i with
    | powerOn b1 b0 => exact absurd rfl (hpower b1 b0)
    | resetAssert => exact absurd rfl hassert
    | resetRelease b1 b0 => exact absurd rfl (hrelease b1 b0)
    | rxdByte b => exact keeps_rxdByte b
    | framingError brk => exact keeps_framingError brk
    | interByteTimeout gap => exact keeps_interByteTimeout gap
    | requestTake => exact keeps_requestTake
    | replySent => exact keeps_replySent
    | restartEffect => exact keeps_restartEffect
    | startingToRunning which => exact keeps_startingToRunning which
    | extMissingCycle => exact keeps_extMissingCycle
    | extActivityLoss => exact keeps_extActivityLoss
    | extActivityReturn => exact keeps_extActivityReturn
    | refEdge c => exact keeps_refEdge c
    | refWindowClose => exact keeps_refWindowClose
    | holdoverExpiry => exact keeps_holdoverExpiry
    | laneBoundary lane => exact keeps_laneBoundary lane
    | framePulseEnd output => exact keeps_framePulseEnd output
    | markEdge input c => exact keeps_markEdge input c
    | holdoffEnd input => exact keeps_holdoffEnd input
    | markExpiry input => exact keeps_markExpiry input
    | deviceSilenceExpiry n => exact keeps_deviceSilenceExpiry n
    | cueDue => exact keeps_cueDue
    | cuePulseEnd slot => exact keeps_cuePulseEnd slot
    | sourceCycle which => exact keeps_sourceCycle which
    | rxdReturnsHigh => exact keeps_rxdReturnsHigh
    | _ => exact absurd rfl hreq

/-! ### Power and reset -/

/-- Every block at its power-on values, with a rate code of the straps. -/
theorem powered_lawful (s : State) {rate : Nat} (hrate : rate ≤ 3) : (s.powered rate).lawful := by
  have hreset := ((lawful_iff _).mp resetStateIsLawful).2
  have hlinked : (State.reset.setLink (.reset rate)).Laws :=
    hreset.linked ⟨hrate, Nat.zero_le _, rfl, fun hw => (by cases hw), fun hr => (by cases hr), fun hb => (by cases hb)⟩
  exact (lawful_iff _).mpr ⟨fun hlow => (by cases hlow), { hlinked with }⟩

theorem strapCode_le (b1 b0 : Bool) : strapCode b1 b0 ≤ 3 := by cases b1 <;> cases b0 <;> decide

/-- A command from a lawful state leaves a lawful state. -/
theorem exec_lawful {s t : State} (h : s.lawful) (c : Instr) (ht : exec c s = .next t) : t.lawful := by
  have hlaws := ((lawful_iff s).mp h).2
  by_cases hpower : ∃ b1 b0, c = .powerOn b1 b0
  · obtain ⟨b1, b0, rfl⟩ := hpower
    cases ht
    exact powered_lawful s (strapCode_le b1 b0)
  by_cases hassert : c = .resetAssert
  · subst hassert
    cases ht
    have hpowered := ((lawful_iff _).mp (powered_lawful s hlaws.link.1)).2
    exact (lawful_iff _).mpr ⟨fun _ => rfl, { hpowered with }⟩
  by_cases hrelease : ∃ b1 b0, c = .resetRelease b1 b0
  · obtain ⟨b1, b0, rfl⟩ := hrelease
    cases ht
    split
    · exact powered_lawful s (strapCode_le b1 b0)
    · exact h
  simp only [not_exists] at hpower hrelease
  cases hlow : s.resetLow with
  | true =>
    rw [resetHeldLowHoldsEveryBlock s c hlow hpower hassert hrelease] at ht
    cases ht
    exact h
  | false =>
    have hlives := keeps_exec c hpower hassert hrelease s t ⟨hlaws, hlow⟩ ht
    exact (lawful_iff _).mpr ⟨fun hc => absurd (hlives.up.symm.trans hc) (by decide), hlives.toLaws⟩

/-- A step from a lawful state leaves a lawful state. -/
theorem step_lawful {s t : State} (h : s.lawful) (ht : step s = .next t) : t.lawful := by
  cases hp : s.pending with
  | nil => rw [step_nil s hp] at ht; cases ht; exact h
  | cons c rest =>
    rw [step_cons s c rest hp] at ht
    obtain ⟨hreset, hlaws⟩ := (lawful_iff s).mp h
    have hqueued : ({ s with pending := rest } : State).lawful :=
      (lawful_iff _).mpr ⟨fun hlow => congrArg (fun u : State => { u with pending := rest }) (hreset hlow), { hlaws with }⟩
    exact exec_lawful hqueued c ht

/-! ### The invariants -/

/-- Settles O54, by the laws that every step keeps. -/
theorem stepsKeepFlagsAndLink : Obligations.StepsKeepFlagsAndLink := by
  intro s t h ht
  obtain ⟨hreset, hlaws⟩ := (lawful_iff t).mp (step_lawful h ht)
  exact ⟨hlaws.attn, hlaws.link, hreset⟩

/-- Settles O55, by the laws that every step keeps. -/
theorem stepsKeepClockAndDiscipline : Obligations.StepsKeepClockAndDiscipline := by
  intro s t h ht
  have hlaws := ((lawful_iff t).mp (step_lawful h ht)).2
  exact ⟨hlaws.sources, hlaws.trim, hlaws.counts, hlaws.ranges, hlaws.disc, hlaws.ref⟩

/-- Settles O56, by the laws that every step keeps. -/
theorem stepsKeepLanesAndTheirNames : Obligations.StepsKeepLanesAndTheirNames := by
  intro s t h ht
  have hlaws := ((lawful_iff t).mp (step_lawful h ht)).2
  exact ⟨hlaws.lanes, hlaws.names⟩

/-- Settles O57, by the laws that every step keeps. -/
theorem stepsKeepPulsesAndMarks : Obligations.StepsKeepPulsesAndMarks := by
  intro s t h ht
  have hlaws := ((lawful_iff t).mp (step_lawful h ht)).2
  exact ⟨hlaws.fps, hlaws.marks⟩

/-- Settles O58, by the laws that every step keeps. -/
theorem stepsKeepDevicesAndTheirCues : Obligations.StepsKeepDevicesAndTheirCues := by
  intro s t h ht
  have hlaws := ((lawful_iff t).mp (step_lawful h ht)).2
  exact ⟨hlaws.devices, hlaws.owners⟩

/-- Settles O59, by the laws that every step keeps. -/
theorem stepsKeepCuesAndDues : Obligations.StepsKeepCuesAndDues := by
  intro s t h ht
  have hlaws := ((lawful_iff t).mp (step_lawful h ht)).2
  exact ⟨hlaws.dues, hlaws.lines, hlaws.cues⟩

/-- Settles O60, by the laws that every step keeps. -/
theorem stepsKeepUnsetTimeQuiet : Obligations.StepsKeepUnsetTimeQuiet := by
  intro s t h ht
  exact ((lawful_iff t).mp (step_lawful h ht)).2.unset

end Sys2Proof.Machine
end

section
/-! Conditions met one after another, and the definition, the hold, the label and the release of a lane. -/

namespace Sys2Proof.Machine

/-! ### Conditions met -/

theorem Conds.or_none (m : Conds) : m.or .none = m := by simp [Conds.or, Conds.none]

theorem Conds.none_or (m : Conds) : Conds.none.or m = m := by simp [Conds.or, Conds.none]

theorem Conds.or_assoc (a b c : Conds) : (a.or b).or c = a.or (b.or c) := by simp [Conds.or, Bool.or_assoc]

/-- Of conditions met in two parts, some is newly met in the first or, after it, in the second. -/
theorem Conds.newly_or (k a b : Conds) : k.newly (a.or b) = (k.newly a || (k.or a).newly b) := by
  obtain ⟨k1, k2, k3⟩ := k
  obtain ⟨a1, a2, a3⟩ := a
  obtain ⟨b1, b2, b3⟩ := b
  simp only [Conds.newly, Conds.or]
  revert k1 k2 k3 a1 a2 a3 b1 b2 b3
  decide

section
variable {s : State}

/-- A flag raised twice is raised once. -/
theorem raise_raise (f : Flag) (s : State) : raise f (raise f s) = raise f s := by
  have hflag : (raise f s).flag f = { s.flag f with set := true, seen := false } := by rw [flag_raise, if_pos rfl]
  rw [raise, hflag, raise]
  simp only [Bank.put_put]

/-- Conditions met in two parts are noted one after the other. -/
theorem stick_or (i : Nat) (a b : Conds) (s : State) : stick i (a.or b) s = stick i b (stick i a s) := by
  have hraise : ∀ (x y : Bool) (u : State), raiseIf y .laneException (raiseIf x .laneException u) = raiseIf (x || y) .laneException u := fun x y u => by
    cases x <;> cases y <;> simp [raiseIf, raise_raise]
  have hset : ∀ (x : Bool) (u : State) l, (raiseIf x .laneException u).setLane i l = raiseIf x .laneException (u.setLane i l) := fun x u l => by cases x <;> rfl
  have hlane : ∀ (x : Bool) (u : State), (raiseIf x .laneException u).lane i = u.lane i := fun x u => by cases x <;> rfl
  rcases Nat.lt_or_ge i 16 with hi | hi
  · simp only [stick, hlane, State.lane_setLane_same hi, hset, hraise, Conds.newly_or]
    rw [State.setLane, State.setLane, State.setLane_lanes, Bank.put_put]
    simp only [Conds.or_assoc]
    rfl
  · have hout : ∀ (u : State) l, u.setLane i l = u := fun u l => by rw [State.setLane, Bank.put_out _ hi]
    have hreset : ∀ u : State, u.lane i = .reset := fun u => Bank.get_out _ hi _
    have hnone : (Conds.none.newly a || (Conds.none.or a).newly b) = (Conds.none.newly a || Conds.none.newly b) := by
      obtain ⟨a1, a2, a3⟩ := a
      obtain ⟨b1, b2, b3⟩ := b
      simp only [Conds.newly, Conds.or, Conds.none]
      revert a1 a2 a3 b1 b2 b3
      decide
    simp only [stick, hreset, hout, hraise, Conds.newly_or]
    exact congrArg (fun x => raiseIf x .laneException s) hnone

/-- One condition alone met is noted, in the words of the statements (R22, R23). -/
theorem stick_only (i : Nat) (c : Cond) (s : State) : stick i c.only s = Spec.stuck s i c := by
  have hnew : (s.lane i).sticky.newly c.only = !(s.lane i).sticky.has c := by cases c <;> simp [Conds.newly, Cond.only, Conds.has]
  rw [stick, hnew, Spec.stuck]
  cases (s.lane i).sticky.has c <;> rfl

theorem stuckIf_eq (b : Bool) (i : Nat) (c : Cond) (s : State) : Spec.stuckIf b s i c = stick i (if b then c.only else .none) s := by
  cases b
  · rw [Spec.stuckIf, if_neg Bool.false_ne_true, if_neg Bool.false_ne_true, stick_none]
  · rw [Spec.stuckIf, if_pos rfl, if_pos rfl, stick_only]

end

/-! ### Rounding up -/

/-- The quotient rounded up, from its bounds. -/
theorem ceilDiv_unique {a b k : Int} (hlow : (k - 1) * b < a) (hhigh : a ≤ k * b) : ceilDiv a b = k := by
  have hb : 0 < b := by nlinarith
  have hquot : -a / b = -k := ((Int.ediv_emod_unique (r := -a + b * k) hb).mpr ⟨by ring, by linarith, by linarith⟩).1
  rw [ceilDiv, hquot, neg_neg]

/-! ### LANE_DEFINE -/

section
variable {s : State} {lane code customB mode sound rate pull origin : Nat} {customP phase : Int} {label : Label}

theorem defineOk_iff : defineOk code mode sound rate pull origin = true
    ↔ (1 ≤ code ∧ code ≤ 10 ∨ code = 15) ∧ (mode = 0 ∨ mode = 1 ∧ (code = 4 ∨ code = 9)) ∧ (sound = 0 ∨ sound = 1 ∧ rate ≤ 1 ∧ pull ≤ 2) ∧ origin ≤ 1 := by
  simp only [defineOk, houseCodes, dropAllowed, Bool.and_eq_true, Bool.or_eq_true, beq_iff_eq, decide_eq_true_eq, List.contains_iff_mem, List.mem_cons,
    List.not_mem_nil, or_false]
  omega

/-- The lane that a LANE_DEFINE under the checks of R81 defines, field by field (R81, R82). -/
theorem Lane.defined_eq (old : Lane) (h : defineOk code mode sound rate pull origin = true) :
    old.defined code customP customB mode phase sound rate pull origin
      = { state := .waiting, code := code, period := if code = 15 then (max 225000 (min 10800000 customP)).toNat else ratePeriod code
          base := if code = 15 then max 1 (min 250 customB) else rateBase code, df := decide (mode = 1)
          phase := (max 0 (min (((if code = 15 then (max 225000 (min 10800000 customP)).toNat else ratePeriod code : Nat) : Int) - 1) phase)).toNat
          atNext := decide (origin = 1), mapping := if origin = 0 then some ⟨0, 0⟩ else none, rounding := old.rounding, masks := old.masks
          sticky := old.sticky, sound := if sound = 1 then some ⟨decide (rate = 1), pull⟩ else none, pendingLabel := none, frozen := none
          latched := none, next := none } := by
  have hp : clampNat 225000 10800000 customP = (max 225000 (min 10800000 customP)).toNat := by rw [clampNat, clampInt_eq (by omega)]; rfl
  have hb : clampNat 1 250 customB = max 1 (min 250 customB) := clampNat_natCast (by omega) _
  have hpos : 0 < (if code = 15 then (max 225000 (min 10800000 customP)).toNat else ratePeriod code) := by
    split_ifs with hc
    · omega
    · exact ratePeriod_pos (by rcases (defineOk_iff.mp h).1 with hcode | hcode <;> [(simp [houseCodes]; omega); exact absurd hcode hc])
  have hphase : ∀ p : Nat, 0 < p → clampNat 0 (p - 1) phase = (max 0 (min ((p : Int) - 1) phase)).toNat := fun p hp => by
    rw [clampNat, clampInt_eq (by omega)]; congr 1; omega
  simp only [Lane.defined, hp, hb, hphase _ hpos, beq_decide]
  rfl

/-- LANE_DEFINE past its refusals, by what becomes of the label (R81 to R83). -/
theorem exec_laneDefine (h : s.resetLow = false) (hlane : lane ≤ 15) (hok : defineOk code mode sound rate pull origin = true)
    (hwf : origin = 1 → ((s.lane lane).defined code customP customB mode phase sound rate pull origin).wellFormed label = true)
    (hfree : (s.lane lane).state = .free) :
    let l := (s.lane lane).defined code customP customB mode phase sound rate pull origin
    let cmd := Instr.laneDefine lane code customP customB mode phase sound rate pull origin label
    let set := fun pending : Option Nat => { l with pendingLabel := pending, next := if s.tb.set then some (l.firstIndex s.tb.pt) else none }
    let reply := fun pending : Option Nat => [Fld.code l.code, .ticks l.period, .short l.base, indicator l.df, .ticks l.phase] ++ soundFields l.sound
            ++ [indicator l.atNext, l.labelField pending, .code l.state.code]
    (origin = 0 → exec cmd s = .next (Spec.ok (s.setLane lane (set none)) (reply none)))
      ∧ (∀ m x, origin = 1 → l.bring label = .done m x →
          exec cmd s = .next (Spec.ok (stick lane m (s.setLane lane (set (some (l.countOf x))))) (reply (some (l.countOf x)))))
      ∧ (∀ m c, origin = 1 → l.bring label = .stopped m c → exec cmd s = .next (Spec.no (stick lane m s) c.status)) := by
  intro l cmd set reply
  have hcheck : (!defineOk code mode sound rate pull origin || (origin == 1 && !((s.lane lane).defined code customP customB mode phase sound rate pull
      origin).wellFormed label)) = false := by
    by_cases ho : origin = 1
    · rw [hok, hwf ho]; simp
    · rw [hok, beq_eq_false_iff_ne.mpr ho]; rfl
  refine ⟨fun ho => ?_, fun m x ho hb => ?_, fun m c ho hb => ?_⟩
  all_goals
    simp only [cmd]
    rw [exec, execLaneDefine, request_live h]
  · simp only [laneOk_eq hlane, Bool.not_true, Bool.false_eq_true, if_false, hcheck, hfree, ne_eq,
      not_true_eq_false, if_neg (show ¬ origin = 1 by omega), stick_none]
    rfl
  · simp only [laneOk_eq hlane, Bool.not_true, Bool.false_eq_true, if_false, hcheck, hfree, ne_eq,
      not_true_eq_false, if_pos ho]
    rw [show ((s.lane lane).defined code customP customB mode phase sound rate pull origin).bring label = .done m x from hb]
    simp only [Conv.bind, Conds.or_none]
    rfl
  · simp only [laneOk_eq hlane, Bool.not_true, Bool.false_eq_true, if_false, hcheck, hfree, ne_eq,
      not_true_eq_false, if_pos ho]
    rw [show ((s.lane lane).defined code customP customB mode phase sound rate pull origin).bring label = .stopped m c from hb]
    rfl

theorem labelField_countOf {l : Lane} (h : l.rateOk) (hwf : l.wellFormed label = true) (hex : l.labelExists label = true) :
    l.labelField (some (l.countOf label)) = .label label := by
  rw [Lane.labelField, Option.map_some, Option.getD_some, (Lane.count_of_label h hwf hex).2]

/-- A label that does not exist, brought in, by the mask of INVALID (R21). -/
theorem Lane.bring_missing {l : Lane} (hwf : l.wellFormed label = true) (hex : l.labelExists label = false) :
    (l.masks.invalid = true → l.bring label = .done Cond.invalid.only (l.nextExisting label))
      ∧ (l.masks.invalid = false → l.bring label = .stopped Cond.invalid.only .invalid) := by
  have hmm : (label.mm == anyField) = false := by
    have := (Lane.wellFormed_iff.mp hwf).2.1
    rw [beq_eq_false_iff_ne, anyField]; omega
  have hno : l.patternExists label = false := by rw [Lane.patternExists, hmm, hex]; rfl
  refine ⟨fun hm => ?_, fun hm => ?_⟩ <;> rw [Lane.bring, if_neg (by rw [hno]; decide), Lane.meet]
  · rw [if_pos (show l.masks.has .invalid = true from hm)]
  · rw [if_neg (show ¬ l.masks.has .invalid = true by rw [show l.masks.has .invalid = l.masks.invalid from rfl, hm]; decide)]

end

/-- Settles O36: the refusals by their checks, and the lane defined by its origin and its label. -/
theorem laneDefineSetsUpAWaitingLane : Obligations.LaneDefineSetsUpAWaitingLane := by
  unfold Obligations.LaneDefineSetsUpAWaitingLane
  intro s lane code customP customB mode phase sound rate pull origin label k h cmd fits period old l fields
  have hfits : fits → lane ≤ 15 ∧ defineOk code mode sound rate pull origin = true := fun ⟨hl, hc, hm, hs, ho⟩ => ⟨hl, defineOk_iff.mpr ⟨hc, hm, hs, ho⟩⟩
  have hdef : fits → (s.lane lane).defined code customP customB mode phase sound rate pull origin = { l with next := none } :=
    fun hf => Lane.defined_eq (s.lane lane) (hfits hf).2
  have hwf : fits → ((s.lane lane).defined code customP customB mode phase sound rate pull origin).wellFormed label = l.wellFormed label :=
    fun hf => by rw [hdef hf]; rfl
  have hcheck : fits → (!defineOk code mode sound rate pull origin || (origin == 1 && !((s.lane lane).defined code customP customB mode phase sound rate
      pull origin).wellFormed label)) = (decide (origin = 1) && !l.wellFormed label) := fun hf => by
    rw [(hfits hf).2, hwf hf, beq_decide]; rfl
  refine ⟨fun hno => ?_, fun hf ho hlab => ?_, fun hf ho hst => ?_, fun hf hst hlow hhigh => ?_⟩
  · simp only [cmd]
    rw [exec, execLaneDefine, request_live h]
    rcases Nat.lt_or_ge 15 lane with hl | hl
    · simp only [laneOk_eq_false hl, Bool.not_false, if_true]; rfl
    · have hbad : defineOk code mode sound rate pull origin = false := by
        rw [← Bool.not_eq_true, defineOk_iff]
        exact fun hc => hno ⟨hl, hc⟩
      simp only [laneOk_eq hl, hbad, Bool.not_true, Bool.not_false, Bool.true_or, Bool.false_eq_true, if_false, if_true]; rfl
  · simp only [cmd]
    rw [exec, execLaneDefine, request_live h]
    have hbad : (decide (origin = 1) && !l.wellFormed label) = true := by rw [ho, hlab]; rfl
    simp only [laneOk_eq (hfits hf).1, Bool.not_true, Bool.false_eq_true, if_false, hcheck hf, hbad, if_true]
    rfl
  · have hpass : (decide (origin = 1) && !l.wellFormed label) = false := by
      rcases ho with ho | ho
      · rw [ho]; rfl
      · rw [ho]; simp
    simp only [cmd]
    rw [exec, execLaneDefine, request_live h]
    simp only [laneOk_eq (hfits hf).1, Bool.not_true, Bool.false_eq_true, if_false, hcheck hf, hpass, if_pos (show ¬ (s.lane lane).state = .free from hst), ne_eq]
    rfl
  · have hmain := exec_laneDefine (customP := customP) (customB := customB) (phase := phase) (label := label) h (hfits hf).1 (hfits hf).2
    have hrate : l.rateOk := by
      have := Lane.defined_rateOk (s.lane lane) customP customB phase (hfits hf).2
      rw [hdef hf] at this
      exact this
    have hfirst : l.firstIndex s.tb.pt = k := ceilDiv_unique (by linarith) (by linarith)
    rw [hdef hf] at hmain
    have hset : ∀ pending, ({ ({ l with next := none } : Lane) with
        pendingLabel := pending, next := if s.tb.set then some (({ l with next := none } : Lane).firstIndex s.tb.pt) else none } : Lane)
          = { l with pendingLabel := pending } := fun pending => by
      rw [show ({ l with next := none } : Lane).firstIndex s.tb.pt = k from hfirst]
    have hreply : ∀ pending lab, l.labelField pending = .label lab →
        [Fld.code l.code, .ticks l.period, .short l.base, indicator l.df, .ticks l.phase] ++ soundFields l.sound
          ++ [indicator l.atNext, l.labelField pending, .code l.state.code] = fields lab := fun pending lab hlab => by
      obtain ⟨-, -, hm, hs, ho⟩ := hf
      rw [hlab]
      have hdf : indicator l.df = .code mode := by
        rw [show l.df = (mode == 1) from (beq_decide _ _).symm]; exact (indicator_one (by omega)).1
      have hat : indicator l.atNext = .code origin := by
        rw [show l.atNext = (origin == 1) from (beq_decide _ _).symm]; exact (indicator_one ho).1
      have hsound : soundFields l.sound = [Fld.code sound, .code (if sound = 1 then rate else 0), .code (if sound = 1 then pull else 0)] := by
        rcases hs with hs | ⟨hs, hr, -⟩
        · simp [l, soundFields, present, hs]
        · have : bit (decide (rate = 1)) = rate := by rcases (show rate = 0 ∨ rate = 1 by omega) with hr | hr <;> rw [hr] <;> rfl
          simp [l, soundFields, present, hs, this]
      rw [hdf, hat, hsound]
      rfl
    simp only [hset] at hmain
    refine ⟨fun ho => ?_, fun ho hw hex => ?_, ?_⟩
    · obtain ⟨hzero, -, -⟩ := hmain (fun hc => absurd (ho.symm.trans hc) (by decide)) hst
      rw [← hreply none Spec.zero rfl]
      exact hzero ho
    · obtain ⟨-, htaken, -⟩ := hmain (fun _ => hw) hst
      rw [← hreply _ label (labelField_countOf hrate hw hex)]
      refine (htaken .none label ho (Lane.bring_exists (l := { l with next := none }) hex)).trans ?_
      rw [stick_none]
      rfl
    · intro ho hw hex taken
      obtain ⟨-, htaken, hstop⟩ := hmain (fun _ => hw) hst
      obtain ⟨hmasked, hunmasked⟩ := Lane.bring_missing (l := { l with next := none }) hw hex
      refine ⟨fun hm => ?_, fun hm => ?_⟩
      · obtain ⟨hw', hex'⟩ := Lane.nextExisting_ok hrate hw hex
        have hnext : l.nextExisting label = taken := rfl
        rw [hnext] at hw' hex'
        rw [← hreply _ taken (labelField_countOf hrate hw' hex'), ← stick_only]
        exact htaken _ taken ho (hmasked hm)
      · rw [← stick_only]
        exact hstop _ _ ho (hunmasked hm)

end Sys2Proof.Machine
end

section
/-! The suspension of a lane's cues, and LANE_HOLD, LANE_SET_LABEL and LANE_RELEASE (section 5.4). -/

namespace Sys2Proof.Machine

section
variable {s : State} {slot : Nat}

/-! ### One cue suspended -/

/-- A cue that a hold of its lane suspends: WAITING, or PULSING with further firings (R154). -/
def State.toSuspend (s : State) (slot : Nat) : Bool := (s.cue slot).any fun q => decide (q.state = .waiting) || decide (q.state = .pulsing) && q.further

/-- A cue once suspended. -/
def Cue.suspended (q : Cue) : Cue := { q with state := .suspended, due := none, remaining := 0 }

/-- A cue to suspend, by its slot. -/
theorem toSuspend_iff : s.toSuspend slot = true ↔ ∃ c, s.cue slot = some c ∧ ¬ (c.state = .suspended ∨ c.state = .pulsing ∧ ¬ c.further = true) := by
  rw [State.toSuspend, Option.any_eq_true]
  refine exists_congr fun c => and_congr_right fun _ => ?_
  cases c.state <;> simp

/-- A slot with no cue to suspend is left alone. -/
theorem suspendCue_idle (h : s.toSuspend slot = false) : suspendCue slot s = s := by
  unfold suspendCue
  split
  · rfl
  · next c hc =>
    refine if_pos ?_
    by_contra hgo
    rw [(toSuspend_iff.mpr ⟨c, hc, hgo⟩ : s.toSuspend slot = true)] at h
    cases h

/-- A line after the pulse of a slot has ended (R149). -/
theorem line_releaseLine (h : s.linesOk) {c : Cue} (hc : s.cue slot = some c) {j : Nat} (hj : j < 8) :
    (releaseLine slot c.line s).line j
      = if (s.line j).holder = some slot then { s.line j with level := (s.line j).idle, holder := none } else s.line j := by
  have hown : (s.line j).holder = some slot → c.line = some j := fun hh => by
    have := h j (List.mem_range.mpr hj) slot hh
    rw [hc] at this
    exact (of_decide_eq_true this).2
  rw [releaseLine_eq]
  split
  · next hline => rw [if_neg fun hh => by rw [hown hh] at hline; cases hline]
  · next k hline =>
    by_cases hjk : j = k
    · subst hjk
      split_ifs
      · rw [State.line, State.setLine, Bank.get_put_same _ hj]
      · rfl
    · have hno : ¬ (s.line j).holder = some slot := fun hh => by rw [hown hh] at hline; cases hline; exact hjk rfl
      rw [if_neg hno]
      split_ifs
      · rw [State.line, State.setLine, Bank.get_put_ne _ (Ne.symm hjk)]; rfl
      · rfl

/-- What the suspension of a slot's cue does to the due list, the cues and the lines, and nothing else. -/
theorem suspendCue_spec (slot : Nat) (s : State) :
    suspendCue slot s = { s with cues := (suspendCue slot s).cues, dues := (suspendCue slot s).dues, lines := (suspendCue slot s).lines }
      ∧ (suspendCue slot s).dues = s.dues.filter (fun j => !(decide (j = slot) && s.toSuspend slot))
      ∧ (∀ j, (suspendCue slot s).cue j = if j = slot ∧ s.toSuspend slot = true then (s.cue j).map Cue.suspended else s.cue j)
      ∧ (s.linesOk → (suspendCue slot s).linesOk ∧ ∀ j < 8, (suspendCue slot s).line j
          = if (s.line j).holder = some slot ∧ s.toSuspend slot = true then { s.line j with level := (s.line j).idle, holder := none } else s.line j) := by
  cases hs : s.toSuspend slot with
  | false =>
    rw [suspendCue_idle hs]
    refine ⟨rfl, ?_, fun j => by simp, fun h => ⟨h, fun j _ => by simp⟩⟩
    simp
  | true =>
    obtain ⟨c, hc, hgo⟩ := toSuspend_iff.mp hs
    have hlt := State.cue_lt hc
    rw [suspendCue_eq hc hgo]
    refine ⟨rfl, ?_, fun j => ?_, fun h => ?_⟩
    · simp [State.scheduled]
    · by_cases hj : j = slot
      · subst hj
        refine (Bank.get_put_same _ hlt _ _).trans ?_
        simp [hc, Cue.suspended]
      · refine (Bank.get_put_ne _ (Ne.symm hj) _ _).trans ?_
        simp only [hj, false_and, if_false]
        rfl
    · have hline : ∀ j < 8, (if c.state = .pulsing then releaseLine slot c.line s else s).line j
          = if (s.line j).holder = some slot then { s.line j with level := (s.line j).idle, holder := none } else s.line j := fun j hj => by
        split_ifs with hp hh hh
        · rw [line_releaseLine h hc hj, if_pos hh]
        · rw [line_releaseLine h hc hj, if_neg hh]
        · have := h j (List.mem_range.mpr hj) slot hh
          rw [hc] at this
          exact absurd (of_decide_eq_true this).1 hp
        · rfl
      refine ⟨State.linesOk_scheduled h hlt fun j hj i hi => ?_, fun j hj => ?_⟩
      · change i ∈ ((if c.state = .pulsing then releaseLine slot c.line s else s).line j).holder at hi
        rw [hline j hj] at hi
        split_ifs at hi with hh
        · cases hi
        · exact Or.inl ⟨fun he => hh (he ▸ hi), hi⟩
      · simp only [and_true]
        exact hline j hj

/-! ### The cues of a list suspended -/

/-- A run of suspensions: what it does to the due list, the cues and the lines (R154). -/
theorem suspendAll_spec (l : List Nat) (s : State) :
    let t := l.foldl (fun s slot => suspendCue slot s) s
    t = { s with cues := t.cues, dues := t.dues, lines := t.lines }
      ∧ t.dues = s.dues.filter (fun j => !(decide (j ∈ l) && s.toSuspend j))
      ∧ (∀ j, t.cue j = if j ∈ l ∧ s.toSuspend j = true then (s.cue j).map Cue.suspended else s.cue j)
      ∧ (s.linesOk → ∀ j < 8, t.line j
          = if (s.line j).holder.any (fun i => decide (i ∈ l) && s.toSuspend i) then { s.line j with level := (s.line j).idle, holder := none }
            else s.line j) := by
  induction l generalizing s with
  | nil =>
    refine ⟨rfl, by simp, fun j => by simp, fun _ j _ => ?_⟩
    cases (s.line j).holder <;> simp
  | cons a l ih =>
    obtain ⟨hframe, hdues, hcue, hlines⟩ := suspendCue_spec a s
    obtain ⟨iframe, idues, icue, ilines⟩ := ih (suspendCue a s)
    have hother : ∀ j, j ≠ a → (suspendCue a s).toSuspend j = s.toSuspend j := fun j hj => by
      rw [State.toSuspend, State.toSuspend, hcue, if_neg fun hh => hj hh.1]
    have hdone : (suspendCue a s).toSuspend a = false := by
      rw [State.toSuspend, hcue]
      cases hs : s.toSuspend a with
      | true => cases s.cue a <;> simp [Cue.suspended]
      | false => simpa [State.toSuspend] using hs
    have hhit : ∀ j, (decide (j ∈ a :: l) && s.toSuspend j) = ((decide (j = a) && s.toSuspend a) || (decide (j ∈ l) && (suspendCue a s).toSuspend j)) := fun j => by
      by_cases hj : j = a
      · subst hj; simp [hdone]
      · simp [hj, hother j hj]
    refine ⟨?_, ?_, fun j => ?_, fun h j hj => ?_⟩
    · rw [List.foldl_cons, iframe, hframe]
    · rw [List.foldl_cons, idues, hdues, List.filter_filter]
      refine List.filter_congr fun j _ => ?_
      rw [hhit j]
      cases decide (j = a) && s.toSuspend a <;> simp
    · rw [List.foldl_cons, icue, hcue]
      have hj := hhit j
      by_cases hja : j = a
      · subst hja
        cases s.toSuspend j <;> simp [hdone]
      · simp [hja, hother j hja]
    · obtain ⟨hok, hline⟩ := hlines h
      rw [List.foldl_cons, ilines hok j hj, hline j hj]
      cases hh : (s.line j).holder with
      | none => simp [hh]
      | some i =>
        have hi := hhit i
        simp only [Option.any_some, hi, Option.some.injEq]
        by_cases hia : i = a
        · subst hia
          cases hs : s.toSuspend i <;> simp [hh, hdone]
        · simp [hia, hh]

/-- The cues of a lane that its hold suspends. -/
theorem mem_cuesWhere_iff (s : State) (lane slot : Nat) :
    (decide (slot ∈ s.cuesWhere fun c => c.on lane) && s.toSuspend slot)
      = (s.cue slot).any fun q => q.on lane && (decide (q.state = .waiting) || decide (q.state = .pulsing) && q.further) := by
  cases hc : s.cue slot with
  | none => simp [State.toSuspend, hc]
  | some c =>
    have hlt := State.cue_lt hc
    have hin : decide (slot ∈ s.cuesWhere fun c => c.on lane) = c.on lane := by
      rw [State.cuesWhere, Bool.eq_iff_iff, decide_eq_true_eq, List.mem_filter, hc, Option.any_some, slots, List.mem_range]
      exact and_iff_right hlt
    rw [hin, State.toSuspend, hc]
    rfl

end

/-! ### Hold, label and release -/

section
variable {s : State} {lane : Nat} {label : Label}

theorem exec_laneHold (h : s.resetLow = false) (hlane : lane ≤ 15) :
    ((s.lane lane).state = .running →
        exec (.laneHold lane) s
          = .next (Spec.ok (suspendLane lane (s.setLane lane { s.lane lane with state := .held, frozen := (s.lane lane).latched.map Latched.count }))
              [.code 3, (s.lane lane).labelField ((s.lane lane).latched.map Latched.count)]))
      ∧ ((s.lane lane).state = .releasing →
        exec (.laneHold lane) s = .next (Spec.ok (s.setLane lane { s.lane lane with state := .held }) [.code 3, (s.lane lane).labelField (s.lane lane).frozen])) := by
  refine ⟨fun hst => ?_, fun hst => ?_⟩ <;> rw [exec, execLaneHold, request_live h] <;>
    simp only [laneOk_eq hlane, Bool.not_true, Bool.false_eq_true, if_false, hst] <;> rfl

/-- LANE_SET_LABEL on a HELD lane, by what becomes of the label (R89). -/
theorem exec_laneSetLabel (h : s.resetLow = false) (hlane : lane ≤ 15) (hst : (s.lane lane).state = .held) (hwf : (s.lane lane).wellFormed label = true) :
    (∀ m x, (s.lane lane).bring label = .done m x →
        exec (.laneSetLabel lane label) s
          = .next (Spec.ok (stick lane m (s.setLane lane { s.lane lane with pendingLabel := some ((s.lane lane).countOf x) }))
              [(s.lane lane).labelField (some ((s.lane lane).countOf x))]))
      ∧ (∀ m c, (s.lane lane).bring label = .stopped m c → exec (.laneSetLabel lane label) s = .next (Spec.no (stick lane m s) c.status)) := by
  refine ⟨fun m x hb => ?_, fun m c hb => ?_⟩ <;> rw [exec, execLaneSetLabel, request_live h] <;>
    simp only [laneOk_eq hlane, Bool.not_true, Bool.false_eq_true, if_false, hst, hwf, hb, ne_eq, not_true_eq_false, reduceCtorEq] <;> rfl

end

/-- Settles O38: each request by the lane's state and the label, and the hold by the cues it suspends. -/
theorem holdLabelAndRelease : Obligations.HoldLabelAndRelease := by
  unfold Obligations.HoldLabelAndRelease
  intro s lane label h l
  refine ⟨fun hlane => ⟨?_, ?_, ?_⟩, fun hlane => ⟨fun hst => ?_, fun c hst hc => ?_, fun r hst hr => ?_, fun hst => ?_, fun k hst hk => ?_, fun hst => ?_,
    fun hst hwf => ?_, fun hst hst' hwf => ?_, fun hst hrate hwf hex => ?_, fun hst hwf hex hm => ?_, fun hst hrate hwf hex hm => ?_⟩⟩
  · rw [exec, execLaneHold, request_live h]
    simp only [laneOk_eq_false hlane, Bool.not_false, if_true]; rfl
  · rw [exec, execLaneRelease, request_live h]
    simp only [laneOk_eq_false hlane, Bool.not_false, if_true]; rfl
  · rw [exec, execLaneSetLabel, request_live h]
    simp only [laneOk_eq_false hlane, Bool.not_false, if_true]; rfl
  · rw [exec, execLaneHold, request_live h]
    rcases hst with hst | hst | hst <;>
      simp only [laneOk_eq hlane, Bool.not_true, Bool.false_eq_true, if_false, show (s.lane lane).state = _ from hst] <;> rfl
  · have hexec := (exec_laneHold h hlane).2 hst
    have hlabel : (s.lane lane).labelField (s.lane lane).frozen = .label (l.labelOf c) := by
      rw [show (s.lane lane).frozen = some c from hc]; rfl
    rw [hlabel] at hexec
    exact hexec
  · have hexec := (exec_laneHold h hlane).1 hst
    rw [show (s.lane lane).latched = some r from hr] at hexec
    obtain ⟨hframe, hdues, hcue, hlines⟩ := suspendAll_spec ((s.setLane lane { l with state := .held, frozen := some r.count }).cuesWhere fun c => c.on lane)
      (s.setLane lane { l with state := .held, frozen := some r.count })
    have hhit := mem_cuesWhere_iff (s.setLane lane { l with state := .held, frozen := some r.count }) lane
    refine ⟨_, hexec, hframe, ?_, fun slot _ => ?_, fun hok j hj => ?_⟩
    · exact hdues.trans (List.filter_congr fun j _ => congrArg Bool.not (hhit j))
    · refine (hcue slot).trans ?_
      have hslot := hhit slot
      rw [Bool.eq_iff_iff, Bool.and_eq_true, decide_eq_true_eq] at hslot
      simp only [hslot]
      rfl
    · refine (hlines hok j hj).trans ?_
      simp only [hhit]
      rfl
  · rw [exec, execLaneRelease, request_live h]
    simp only [laneOk_eq hlane, Bool.not_true, Bool.false_eq_true, if_false, if_pos (show (s.lane lane).state ≠ .held from hst)]; rfl
  · have hnext : (s.lane lane).next.getD 0 = k := by rw [show (s.lane lane).next = some k from hk]; rfl
    rw [exec, execLaneRelease, request_live h]
    simp only [laneOk_eq hlane, Bool.not_true, Bool.false_eq_true, if_false, if_neg (not_not.mpr (show (s.lane lane).state = .held from hst)), hnext]
    rfl
  · rw [exec, execLaneSetLabel, request_live h]
    simp only [laneOk_eq hlane, Bool.not_true, Bool.false_eq_true, if_false, if_pos (show (s.lane lane).state = .free from hst)]; rfl
  · rw [exec, execLaneSetLabel, request_live h]
    simp only [laneOk_eq hlane, Bool.not_true, Bool.false_eq_true, if_false, if_neg (show ¬ (s.lane lane).state = .free from hst),
      show (s.lane lane).wellFormed label = false from hwf, Bool.not_false, if_true]; rfl
  · rw [exec, execLaneSetLabel, request_live h]
    simp only [laneOk_eq hlane, Bool.not_true, Bool.false_eq_true, if_false, if_neg (show ¬ (s.lane lane).state = .free from hst),
      show (s.lane lane).wellFormed label = true from hwf, if_pos (show (s.lane lane).state ≠ .held from hst')]; rfl
  · rw [(exec_laneSetLabel h hlane hst hwf).1 _ _ (Lane.bring_exists hex), labelField_countOf hrate hwf hex, stick_none]
  · rw [(exec_laneSetLabel h hlane hst hwf).2 _ _ ((Lane.bring_missing hwf hex).2 hm), stick_only]; rfl
  · obtain ⟨hwf', hex'⟩ := Lane.nextExisting_ok hrate hwf hex
    rw [(exec_laneSetLabel h hlane hst hwf).1 _ _ ((Lane.bring_missing hwf hex).1 hm), labelField_countOf hrate hwf' hex', stick_only]
    rfl

end Sys2Proof.Machine
end

section
/-! Conversions as chains of judged conditions, and LANE_CONVERT (sections 1.4 to 1.8 and R95). -/

namespace Sys2Proof.Machine

/-! ### A condition judged -/

section
variable {α β : Type} {l : Lane} {c : Cond} {b : Bool} {i : Nat}

/-- A part of a conversion that comes to `a`, a condition being met at it or not (R22, R23). -/
def Lane.judge (l : Lane) (b : Bool) (c : Cond) (a : α) : Conv α := if b then l.meet c a else .done .none a

/-- What a request does whose conversion comes to `x`: the sticky flags of the conditions met, and what the result is taken for, or the refusal. -/
def resolved (i : Nat) (G : Conds → α → State → State) (x : Conv α) (s : State) : State :=
  match x with
  | .done m a => G m a (stick i m s)
  | .stopped m c => Spec.no (stick i m s) c.status

theorem resolved_done (G : Conds → α → State → State) (a : α) (s : State) : resolved i G (.done .none a) s = G .none a s := by
  rw [resolved, stick_none]

/-- A judged part refuses at its condition unmasked, and is otherwise noted before what follows. -/
theorem resolved_judge (G : Conds → β → State → State) (f : α → Conv β) (a : α) (s : State) :
    (b = true → l.masks.has c = false → resolved i G ((l.judge b c a).bind f) s = Spec.no (Spec.stuckIf b s i c) c.status)
      ∧ (b = false ∨ l.masks.has c = true →
        resolved i G ((l.judge b c a).bind f) s
          = resolved i (fun m r => G ((if b then c.only else .none).or m) r) (f a) (Spec.stuckIf b s i c)) := by
  refine ⟨fun hb hm => ?_, fun hgo => ?_⟩
  · subst hb
    rw [Lane.judge, if_pos rfl, Lane.meet, if_neg (by rw [hm]; decide), stuckIf_eq]
    rfl
  · have hdone : l.judge b c a = .done (if b then c.only else .none) a := by
      cases b with
      | false => rfl
      | true =>
        rw [Lane.judge, if_pos rfl, Lane.meet, if_pos (hgo.resolve_left (by decide))]
        rfl
    rw [hdone, stuckIf_eq]
    unfold Conv.bind
    dsimp only
    cases f a <;> simp only [resolved, stick_or]

/-- The answer to a request whose conversion comes to `x`. -/
def converted (i : Nat) (F : Conds → α → List Fld) (x : Conv α) (s : State) : State := resolved i (fun m a s => Spec.ok s (F m a)) x s

theorem converted_done (F : Conds → α → List Fld) (a : α) (s : State) : converted i F (.done .none a) s = Spec.ok s (F .none a) := resolved_done _ a s

/-- The answer where a condition is judged. -/
theorem converted_judge (F : Conds → β → List Fld) (f : α → Conv β) (a : α) (s : State) :
    (b = true → l.masks.has c = false → converted i F ((l.judge b c a).bind f) s = Spec.no (Spec.stuckIf b s i c) c.status)
      ∧ (b = false ∨ l.masks.has c = true →
        converted i F ((l.judge b c a).bind f) s
          = converted i (fun m r => F ((if b then c.only else .none).or m) r) (f a) (Spec.stuckIf b s i c)) :=
  resolved_judge (fun m a s => Spec.ok s (F m a)) f a s

end

/-! ### The parts of the conversions -/

section
variable {l : Lane}

theorem wrap_cast {n : Nat} (hn : 0 < n) (v : Int) : (wrap v n : Int) = v % n := by
  rw [wrap, Int.toNat_of_nonneg (Int.emod_nonneg v (by omega))]

theorem wrap_of_range {n : Nat} {v : Int} (h : 0 ≤ v ∧ v < n) : wrap v n = v.toNat := by
  rw [wrap, Int.emod_eq_of_lt h.1 h.2]

theorem Lane.convCount_judge (t : Int) :
    l.convCount t = l.judge (decide (l.map.rawCount (l.indexAt t) < 0 ∨ l.nDay ≤ l.map.rawCount (l.indexAt t))) .range
      (wrap (l.map.rawCount (l.indexAt t)) l.nDay) := by
  unfold Lane.convCount Lane.judge
  dsimp only
  split
  · next h => rw [if_neg (by rw [decide_eq_true_eq]; omega), wrap_of_range h]
  · next h => rw [if_pos (by rw [decide_eq_true_eq]; omega)]

theorem Lane.checkPt_judge (v : Int) : l.checkPt v = l.judge (decide (v < 0 ∨ 2 ^ 64 ≤ v)) .range (Spec.clampPt v).toNat := by
  unfold Lane.checkPt Lane.judge Spec.clampPt
  rw [show (ptLimit : Int) = 2 ^ 64 from by decide]
  split
  · next h => rw [if_neg (by rw [decide_eq_true_eq]; omega), max_eq_right (by omega), min_eq_right (by omega)]
  · next h =>
    rw [if_pos (show decide (v < 0 ∨ 2 ^ 64 ≤ v) = true by rw [decide_eq_true_eq]; omega)]
    congr 1
    split
    · next hneg => rw [max_eq_left (by omega)]; rfl
    · next hpos => rw [min_eq_left (by omega), max_eq_right (by decide)]; rfl

/-- A pattern brought in: INVALID where no label that it matches exists (R21, R142). -/
theorem Lane.bring_pattern (p : Label) : l.bring p = l.judge (!l.patternExists p) .invalid (if !l.patternExists p then Spec.raised l p else p) := by
  rw [Lane.bring, Lane.judge]
  cases l.patternExists p <;> rfl

theorem Lane.bring_judge {lab : Label} (hwf : l.wellFormed lab = true) :
    l.bring lab = l.judge (!l.labelExists lab) .invalid (if !l.labelExists lab then Spec.raised l lab else lab) := by
  have hmm : (lab.mm == anyField) = false := by
    have := (Lane.wellFormed_iff.mp hwf).2.1
    rw [beq_eq_false_iff_ne, anyField]; omega
  rw [Lane.bring_pattern, Lane.patternExists, hmm, Bool.false_or]

/-- A sample position judged against its range (R17). -/
theorem sampleInRange_judge (p : Int) :
    (if sampleInRange p then Conv.done .none p else l.meet .range (clampSample p))
      = l.judge (decide (p < -2 ^ 47 ∨ 2 ^ 47 ≤ p)) .range (max (-2 ^ 47) (min (2 ^ 47 - 1) p)) := by
  have hin : sampleInRange p = !decide (p < -2 ^ 47 ∨ 2 ^ 47 ≤ p) := by
    rw [sampleInRange, sampleLimit, Bool.eq_iff_iff, Bool.not_eq_true', decide_eq_true_eq, decide_eq_false_iff_not]
    omega
  have hclamp : clampSample p = max (-2 ^ 47) (min (2 ^ 47 - 1) p) := clampInt_eq (by decide) p
  rw [hin, Lane.judge, hclamp]
  by_cases h : p < -2 ^ 47 ∨ 2 ^ 47 ≤ p
  · rw [decide_eq_true h]; rfl
  · rw [decide_eq_false h, max_eq_right (by omega), min_eq_right (by omega)]
    rfl

theorem exactly_judge {α : Type} (c : Cond) (a : α) (p : Prop) [Decidable p] : (if p then Conv.done .none a else l.meet c a) = l.judge (decide ¬ p) c a := by
  by_cases h : p <;> simp [h, Lane.judge]

theorem Sound.quotDen_pos (q : Sound) : 0 < q.quotDen := by
  unfold Sound.quotDen Sound.pd
  split_ifs <;> decide

theorem Sound.ratePn_pos (q : Sound) : 0 < q.rate * q.pn := by
  unfold Sound.rate Sound.pn
  split_ifs <;> decide

end

/-! ### Rounding -/

/-- A quotient rounded down, from its bounds. -/
theorem ediv_unique {a b k : Int} (hlow : k * b ≤ a) (hhigh : a < (k + 1) * b) : a / b = k := by
  have hb : 0 < b := by nlinarith
  exact ((Int.ediv_emod_unique (r := a - b * k) hb).mpr ⟨by ring, by linarith, by linarith⟩).1

/-- The nearest whole number to a quotient is the one below or the one above it (R19). -/
theorem nearest_cases {num den r : Int} (hd : 0 < den) (h : 2 * |num - r * den| ≤ den) : r = num / den ∨ r = num / den + 1 := by
  have hdiv := Int.mul_ediv_add_emod num den
  have hge := Int.emod_nonneg num hd.ne'
  have hlt := Int.emod_lt_of_pos num hd
  obtain ⟨hlow, hhigh⟩ := abs_le.mp (show |num - r * den| ≤ den / 2 by omega)
  have hhalf : 2 * (den / 2) ≤ den := by omega
  have hlower : num / den - 1 < r := by nlinarith
  have hupper : r < num / den + 2 := by nlinarith
  omega

/-- A rounding mode takes a quotient to the one whole number that it names (R19). -/
theorem apply_of_rounds {m : Rounding} {num den r : Int} (hd : 0 < den) (h : Spec.rounds m num den r) : m.apply num den = r := by
  cases m with
  | down => exact ediv_unique h.1 h.2
  | up => exact ceilDiv_unique h.1 h.2
  | towardZero =>
    change num.tdiv den = r
    change if 0 ≤ num then _ else _ at h
    split_ifs at h with hn
    · rw [Int.tdiv_eq_ediv_of_nonneg hn]; exact ediv_unique h.1 h.2
    · have hup : ceilDiv num den = r := ceilDiv_unique h.1 h.2
      rw [← hup, ceilDiv, ← Int.tdiv_eq_ediv_of_nonneg (by omega), Int.neg_tdiv, neg_neg]
  | nearestEven =>
    obtain ⟨hnear, htie⟩ := h
    have hdiv := Int.mul_ediv_add_emod num den
    have hcomm : num / den * den = den * (num / den) := mul_comm _ _
    have hge := Int.emod_nonneg num hd.ne'
    have hlt := Int.emod_lt_of_pos num hd
    change roundEven num den = r
    unfold roundEven
    dsimp only
    rcases nearest_cases hd hnear with hr | hr <;> subst hr
    · rw [show num - num / den * den = num % den by omega, abs_of_nonneg hge] at hnear htie
      split_ifs with h1 h2 h3
      · rfl
      · omega
      · rfl
      · exact absurd (htie (by omega)) h3
    · rw [show num - (num / den + 1) * den = num % den - den by rw [add_mul]; omega, abs_of_nonpos (by omega)] at hnear htie
      split_ifs with h1 h2 h3
      · omega
      · rfl
      · have := htie (by omega); omega
      · rfl

/-! ### Occurrences -/

section
variable {l : Lane}

/-- The occurrences of a label count lie whole days apart (R13). -/
theorem Lane.baseOccurrence_place (h : l.rateOk) (c : Nat) (o j : Int) :
    l.baseOccurrence c o + j * l.dayTicks = Spec.place l (l.map.k0 + ((c : Int) - l.map.c0) % l.nDay + j * l.nDay) o := by
  rw [Lane.baseOccurrence, Lane.boundaryPt, wrap_cast h.nDay_pos, Lane.dayTicks, Spec.place]
  ring

/-- NEXT: the first occurrence at or after the reference (R14). -/
theorem Lane.next_nextOccurrence (h : l.rateOk) (c : Nat) (o r : Int) : Spec.next l c o r (l.nextOccurrence c o r) := by
  refine ⟨⟨_, l.baseOccurrence_place h c o _⟩, l.nextOccurrence_ge h c o r, ?_⟩
  have hd := h.dayTicks_pos
  have hdiv := Int.mul_ediv_add_emod (-(r - l.baseOccurrence c o)) l.dayTicks
  have hlt := Int.emod_lt_of_pos (-(r - l.baseOccurrence c o)) hd
  have hc : ceilDiv (r - l.baseOccurrence c o) l.dayTicks * l.dayTicks = -(l.dayTicks * (-(r - l.baseOccurrence c o) / l.dayTicks)) := by
    rw [ceilDiv]; ring
  rw [Lane.nextOccurrence, hc]
  change _ < r + l.dayTicks
  omega

/-- NEAREST: the occurrence within half a day of the reference, the earlier at a tie (R14). -/
theorem Lane.nearestOccurrence_spec (h : l.rateOk) (c : Nat) (o r : Int) :
    (∃ j : Int, l.nearestOccurrence c o r = Spec.place l (l.map.k0 + ((c : Int) - l.map.c0) % l.nDay + j * l.nDay) o)
      ∧ -(l.nDay * l.period : Int) ≤ 2 * (l.nearestOccurrence c o r - r) ∧ 2 * (l.nearestOccurrence c o r - r) < l.nDay * l.period := by
  refine ⟨⟨_, l.baseOccurrence_place h c o _⟩, ?_⟩
  have hd := h.dayTicks_pos
  have hdiv := Int.mul_ediv_add_emod (r - l.baseOccurrence c o) l.dayTicks
  have hge := Int.emod_nonneg (r - l.baseOccurrence c o) hd.ne'
  have hlt := Int.emod_lt_of_pos (r - l.baseOccurrence c o) hd
  have hcomm : (r - l.baseOccurrence c o) / l.dayTicks * l.dayTicks = l.dayTicks * ((r - l.baseOccurrence c o) / l.dayTicks) := mul_comm _ _
  unfold Lane.nearestOccurrence
  change -l.dayTicks ≤ _ ∧ _ < l.dayTicks
  dsimp only
  split_ifs with hpast
  · omega
  · rw [add_mul]; omega

/-- The first tick at or after the instant of a sample, and whether it is that instant (R18). -/
theorem Lane.tick_spec {q : Sound} {p x : Int} (h : Spec.tick l q p x) :
    l.sampleOrigin + ceilDiv (p * q.quotDen) (q.rate * q.pn) = x
      ∧ (¬ p * q.quotDen % (q.rate * q.pn) = 0 ↔ p * (54000000 * q.pd) ≠ (x - (l.phase + l.map.k0 * l.period)) * (q.rate * q.pn)) := by
  have hplace : Spec.place l l.map.k0 0 = l.sampleOrigin := by simp [Spec.place, Lane.sampleOrigin, Lane.boundaryPt]
  obtain ⟨hhigh, hlow⟩ := h
  rw [hplace] at hhigh hlow
  have hceil : ceilDiv (p * q.quotDen) (q.rate * q.pn) = x - l.sampleOrigin :=
    ceilDiv_unique (by rw [Sound.quotDen]; linarith [hlow, show (x - 1 - l.sampleOrigin) * (q.rate * q.pn) = (x - l.sampleOrigin - 1) * (q.rate * q.pn) by ring])
      (by rw [Sound.quotDen]; exact hhigh)
  refine ⟨by rw [hceil]; ring, not_congr ?_⟩
  change _ ↔ p * q.quotDen = (x - l.sampleOrigin) * (q.rate * q.pn)
  have hpos := q.ratePn_pos
  have hdvd : (q.rate * q.pn) ∣ p * q.quotDen ↔ p * q.quotDen % (q.rate * q.pn) = 0 := Int.dvd_iff_emod_eq_zero
  rw [← hdvd]
  constructor
  · rintro ⟨k, hk⟩
    have : ceilDiv (p * q.quotDen) (q.rate * q.pn) = k := ceilDiv_unique (by rw [hk]; nlinarith) (by rw [hk]; linarith [mul_comm k (q.rate * q.pn)])
    rw [hk, ← hceil, this, mul_comm]
  · exact fun hk => ⟨_, hk.trans (mul_comm _ _)⟩

end

/-! ### LANE_CONVERT -/

section
variable {s : State} {lane dir pt sel : Nat} {lab : Label} {off pos : Int}

theorem Conv.bind_assoc {α β γ : Type} (x : Conv α) (f : α → Conv β) (g : β → Conv γ) : (x.bind f).bind g = x.bind fun a => (f a).bind g := by
  cases x with
  | stopped m c => rfl
  | done m a =>
    unfold Conv.bind
    dsimp only
    cases hf : f a with
    | stopped m' c => rfl
    | done m' b => dsimp only; cases g b <;> simp [Conds.or_assoc]

/-- The checks of R95, in the words of the statement. -/
theorem convertOk_iff : convertOk dir sel pos = true ↔ dir ≤ 2 ∧ (dir = 1 → sel ≤ 1) ∧ (dir = 2 → -2 ^ 47 ≤ pos ∧ pos < 2 ^ 47) := by
  simp only [convertOk, sampleInRange, sampleLimit, Bool.and_eq_true, Bool.or_eq_true, decide_eq_true_eq, bne_iff_ne, and_assoc, ne_eq, ← imp_iff_not_or]
  exact and_congr_right fun _ => and_congr_right fun _ => imp_congr_right fun _ => decide_eq_true_iff

theorem Lane.convertOk_iff {l : Lane} :
    l.convertOk dir lab off = true ↔ (dir = 1 → l.wellFormed lab = true ∧ 0 ≤ off ∧ off < l.period) ∧ (dir = 2 → l.sound.isSome = true) := by
  simp only [Lane.convertOk, Bool.and_eq_true, Bool.or_eq_true, decide_eq_true_eq, bne_iff_ne, ne_eq, ← imp_iff_not_or]

/-- The occurrence that a day selector chooses (R14). -/
def Lane.chosen (l : Lane) (near : Bool) (c : Nat) (o r : Int) : Int := if near then l.nearestOccurrence c o r else l.nextOccurrence c o r

/-- The fields of a LANE_CONVERT reply. -/
def convertFields (m : Conds) (r : Converted) : List Fld := [.label r.label, .ticks r.subFrame, .sample r.sample, .pt r.pt] ++ condFields m

/-- LANE_CONVERT, once its checks have passed: the answer to its conversion. -/
theorem exec_laneConvert (h : s.resetLow = false) (hlane : lane ≤ 15) (hok : convertOk dir sel pos = true)
    (hfits : (s.lane lane).convertOk dir lab off = true) (hst : (s.lane lane).state.mapped = true) :
    exec (.laneConvert lane dir pt lab sel off pos) s
      = .next (converted lane convertFields ((s.lane lane).convert s.tb.pt dir pt lab sel off pos) s) := by
  have hfree : (s.lane lane).state ≠ .free := fun hc => by rw [hc] at hst; cases hst
  have hwait : (s.lane lane).state ≠ .waiting := fun hc => by rw [hc] at hst; cases hst
  rw [exec, execLaneConvert, request_live h]
  simp only [laneOk_eq hlane, hok, hfits, if_neg hfree, if_neg hwait, Bool.not_true, Bool.or_false, Bool.false_eq_true, if_false]
  cases (s.lane lane).convert s.tb.pt dir pt lab sel off pos <;> rfl

/-- The conditions met by one, two or three parts of a conversion. -/
theorem met_range (b : Bool) : (if b then Cond.range.only else .none).or .none = ⟨false, b, false⟩ := by cases b <;> rfl

theorem met_invalid_range (a b : Bool) :
    (if a then Cond.invalid.only else .none).or ((if b then Cond.range.only else .none).or .none) = ⟨a, b, false⟩ := by cases a <;> cases b <;> rfl

theorem met_inexact_range (a b : Bool) :
    (if a then Cond.inexact.only else .none).or ((if b then Cond.range.only else .none).or .none) = ⟨false, b, a⟩ := by cases a <;> cases b <;> rfl

theorem met_range_inexact_range (a b c : Bool) :
    (if a then Cond.range.only else .none).or ((if b then Cond.inexact.only else .none).or ((if c then Cond.range.only else .none).or .none))
      = ⟨false, a || c, b⟩ := by cases a <;> cases b <;> cases c <;> rfl

theorem convertFields_eq (m : Conds) (r : Converted) : convertFields m r = Spec.converted r.label r.subFrame r.sample r.pt m := rfl

theorem clampPt_cast (x : Int) : ((Spec.clampPt x).toNat : Int) = Spec.clampPt x := by
  rw [Spec.clampPt, Int.toNat_of_nonneg (by omega)]

end

/-- Settles O35: the checks in their order, and each direction as a chain of judged conditions. -/
theorem conversionsAreExact : Obligations.ConversionsAreExact := by
  unfold Obligations.ConversionsAreExact
  intro s lane dir pt sel lab off pos h l cmd named fits
  have hnamed : named ↔ lane ≤ 15 ∧ convertOk dir sel pos = true := and_congr_right fun _ => convertOk_iff.symm
  have hfits : fits ↔ (s.lane lane).convertOk dir lab off = true := Lane.convertOk_iff.symm
  refine ⟨fun hn => ?_, fun hn hst => ?_, fun hn hst hf => ?_, fun hn hf hst => ?_, fun m hn hf hst hrate hm => ?_⟩
  · have hbad : (!laneOk lane || !convertOk dir sel pos) = true := by
      rw [hnamed, not_and_or] at hn
      rcases hn with hn | hn
      · rw [laneOk_eq_false (by omega)]; rfl
      · simp [Bool.not_eq_true _ ▸ hn]
    rw [show cmd = _ from rfl, exec, execLaneConvert, request_live h]
    simp only [hbad, if_true]; rfl
  · obtain ⟨hlane, hok⟩ := hnamed.mp hn
    rw [show cmd = _ from rfl, exec, execLaneConvert, request_live h]
    simp only [laneOk_eq hlane, hok, Bool.not_true, Bool.or_false, Bool.false_eq_true, if_false, show (s.lane lane).state = .free from hst, if_true]; rfl
  · obtain ⟨hlane, hok⟩ := hnamed.mp hn
    have hf' : (s.lane lane).convertOk dir lab off = false := by rwa [← Bool.not_eq_true, ← hfits]
    rw [show cmd = _ from rfl, exec, execLaneConvert, request_live h]
    simp only [laneOk_eq hlane, hok, Bool.not_true, Bool.or_false, Bool.false_eq_true, if_false, if_neg (show ¬ (s.lane lane).state = .free from hst), hf',
      Bool.not_false, if_true]; rfl
  · obtain ⟨hlane, hok⟩ := hnamed.mp hn
    rw [show cmd = _ from rfl, exec, execLaneConvert, request_live h]
    simp only [laneOk_eq hlane, hok, Bool.not_true, Bool.or_false, Bool.false_eq_true, if_false, show (s.lane lane).state = .waiting from hst, hfits.mp hf,
      reduceCtorEq, if_true]; rfl
  · obtain ⟨hlane, hok⟩ := hnamed.mp hn
    have hexec : exec cmd s = _ := exec_laneConvert h hlane hok (hfits.mp hf) hst
    have hmap : (s.lane lane).map = m := by rw [Lane.map, show (s.lane lane).mapping = some m from hm]; rfl
    intro day origin
    refine ⟨?_, ?_, ?_⟩
    · intro hdir k c label sub wide s₁
      subst hdir
      have hconv : l.convert s.tb.pt 0 pt lab sel off pos
          = (l.judge wide .range (wrap c l.nDay)).bind fun c => (l.sampleOrZero pt).bind fun q => .done .none ⟨l.labelOf c, sub, q, 0⟩ := by
        rw [Lane.convert, if_pos rfl, Lane.convCount_judge, show l.map = m from hmap]
        rfl
      have hwide := converted_judge (l := l) (c := .range) (b := wide) (i := lane) convertFields
        (fun c => (l.sampleOrZero pt).bind fun q => .done .none ⟨l.labelOf c, sub, q, 0⟩) (wrap c l.nDay) s
      rw [hexec, hconv]
      refine ⟨fun hw hmask => congrArg _ (hwide.1 hw hmask), fun hgo => ?_⟩
      rw [hwide.2 hgo]
      refine ⟨fun hs => ?_, ?_⟩
      · rw [Lane.sampleOrZero, show l.sound = none from hs]
        simp only [Conv.none_bind]
        rw [converted_done, met_range, convertFields_eq]
        rfl
      · intro x p hs num den hp part far s₂ s₃
        have happly : l.rounding.apply (l.quotNum x pt) x.quotDen = p := by
          refine apply_of_rounds x.quotDen_pos ?_
          rw [Lane.quotNum, Lane.sampleOrigin, show l.map = m from hmap]
          exact hp
        have hpart : (decide ¬ l.quotNum x pt % x.quotDen = 0) = part := by
          rw [Lane.quotNum, Lane.sampleOrigin, show l.map = m from hmap]; rfl
        have hsample : l.sampleOrZero pt
            = (l.judge part .inexact p).bind fun p => l.judge (decide (p < -2 ^ 47 ∨ 2 ^ 47 ≤ p)) .range (max (-2 ^ 47) (min (2 ^ 47 - 1) p)) := by
          rw [Lane.sampleOrZero, show l.sound = some x from hs]
          simp only [Lane.ptToSample, exactly_judge, sampleInRange_judge, happly, hpart]
        rw [hsample, Conv.bind_assoc]
        have hinexact := converted_judge (l := l) (c := .inexact) (b := part) (i := lane)
          (fun m r => convertFields ((if wide then Cond.range.only else .none).or m) r)
          (fun p => (l.judge (decide (p < -2 ^ 47 ∨ 2 ^ 47 ≤ p)) .range (max (-2 ^ 47) (min (2 ^ 47 - 1) p))).bind
            fun q => .done .none ⟨label, sub, q, 0⟩) p s₁
        refine ⟨fun hb hmask => congrArg _ (hinexact.1 hb hmask), fun hgo => ?_⟩
        have hrange := converted_judge (l := l) (c := .range) (b := far) (i := lane)
          (fun m r => convertFields ((if wide then Cond.range.only else .none).or ((if part then Cond.inexact.only else .none).or m)) r)
          (fun q => .done .none ⟨label, sub, q, 0⟩) (max (-2 ^ 47) (min (2 ^ 47 - 1) p)) s₂
        refine ⟨fun hb hmask => congrArg _ ((hinexact.2 hgo).trans (hrange.1 hb hmask)), fun hgo' => ?_⟩
        refine congrArg _ ((hinexact.2 hgo).trans ((hrange.2 hgo').trans ?_))
        rw [converted_done, met_range_inexact_range, convertFields_eq]
        rfl
    · intro hdir inv taken s₁
      subst hdir
      obtain ⟨hwf, -, -⟩ := hf.1 rfl
      have hconv : l.convert s.tb.pt 1 pt lab sel off pos
          = (l.judge inv .invalid taken).bind fun lab' =>
              (l.checkPt (l.chosen (sel == 0) (l.countOf lab') off s.tb.pt)).bind
                fun t => .done .none ⟨zeroLabel, 0, 0, t⟩ := by
        rw [Lane.convert, if_neg (by decide), if_pos rfl, Lane.labelToPt, Conv.bind_assoc, Lane.bring_judge hwf]
        simp only [Conv.bind_assoc, Conv.none_bind]
        rfl
      have hinv := converted_judge (l := l) (c := .invalid) (b := inv) (i := lane) convertFields
        (fun lab' => (l.checkPt (l.chosen (sel == 0) (l.countOf lab') off s.tb.pt)).bind
                fun t => .done .none ⟨zeroLabel, 0, 0, t⟩) taken s
      rw [hexec, hconv]
      refine ⟨fun hb hmask => congrArg _ (hinv.1 hb hmask), fun hgo => ?_⟩
      obtain ⟨hplace, hnear⟩ := Lane.nearestOccurrence_spec hrate (l.countOf taken) off s.tb.pt
      obtain ⟨hplace', hnext⟩ := Lane.next_nextOccurrence hrate (l.countOf taken) off s.tb.pt
      refine ⟨l.chosen (sel == 0) (l.countOf taken) off s.tb.pt, ?_, fun hsel => ?_, fun hsel => ?_, ?_⟩
      · rw [← hmap]
        unfold Lane.chosen
        split_ifs
        · exact hplace
        · exact hplace'
      · rw [hsel]; exact hnext
      · rw [hsel]; exact hnear
      · intro far s₂
        have hrange := converted_judge (l := l) (c := .range) (b := far) (i := lane)
          (fun m r => convertFields ((if inv then Cond.invalid.only else .none).or m) r)
          (fun t => .done .none ⟨zeroLabel, 0, 0, t⟩) (Spec.clampPt (l.chosen (sel == 0) (l.countOf taken) off s.tb.pt)).toNat s₁
        rw [hinv.2 hgo, Lane.checkPt_judge]
        refine ⟨fun hb hmask => congrArg _ (hrange.1 hb hmask), fun hgo' => congrArg _ ((hrange.2 hgo').trans ?_)⟩
        rw [converted_done, met_invalid_range, convertFields_eq, clampPt_cast]
        rfl
    · intro q x hdir hs htick part far s₁ s₂
      subst hdir
      obtain ⟨hceil, hpart⟩ := Lane.tick_spec htick
      rw [show l.map = m from hmap] at hpart
      have hconv : l.convert s.tb.pt 2 pt lab sel off pos
          = (l.judge part .inexact x).bind fun x => (l.checkPt x).bind fun t => .done .none ⟨zeroLabel, 0, 0, t⟩ := by
        rw [Lane.convert, if_neg (by decide), if_neg (by decide), Lane.soundPart, show l.sound = some q from hs, Option.getD_some, Lane.sampleToPt]
        simp only [exactly_judge, Conv.bind_assoc, hceil, decide_eq_decide.mpr hpart]
        rfl
      have hinexact := converted_judge (l := l) (c := .inexact) (b := part) (i := lane) convertFields
        (fun x => (l.checkPt x).bind fun t => .done .none ⟨zeroLabel, 0, 0, t⟩) x s
      rw [hexec, hconv]
      refine ⟨fun hb hmask => congrArg _ (hinexact.1 hb hmask), fun hgo => ?_⟩
      have hrange := converted_judge (l := l) (c := .range) (b := far) (i := lane)
        (fun m r => convertFields ((if part then Cond.inexact.only else .none).or m) r)
        (fun t => .done .none ⟨zeroLabel, 0, 0, t⟩) (Spec.clampPt x).toNat s₁
      rw [hinexact.2 hgo, Lane.checkPt_judge]
      refine ⟨fun hb hmask => congrArg _ (hrange.1 hb hmask), fun hgo' => congrArg _ ((hrange.2 hgo').trans ?_)⟩
      rw [converted_done, met_inexact_range, convertFields_eq, clampPt_cast]
      rfl

end Sys2Proof.Machine
end

section
/-! The sizes of fields and of replies, and the bound of section 10.5. -/

namespace Sys2Proof.Machine

/-! ### Sizes -/

/-- The bytes of a field's class (R186, R187). -/
def Fld.size : Fld → Nat
  | .code _ => 1
  | .short _ => 2
  | .word _ | .ppb _ => 4
  | .label _ => 5
  | .ticks _ | .index _ | .sample _ | .interval _ => 6
  | .pt _ | .ptSigned _ => 8

@[simp] theorem size_code (n : Nat) : (Fld.code n).size = 1 := rfl
@[simp] theorem size_short (n : Nat) : (Fld.short n).size = 2 := rfl
@[simp] theorem size_word (n : Nat) : (Fld.word n).size = 4 := rfl
@[simp] theorem size_ppb (v : Int) : (Fld.ppb v).size = 4 := rfl
@[simp] theorem size_label (l : Label) : (Fld.label l).size = 5 := rfl
@[simp] theorem size_ticks (v : Int) : (Fld.ticks v).size = 6 := rfl
@[simp] theorem size_index (v : Int) : (Fld.index v).size = 6 := rfl
@[simp] theorem size_sample (v : Int) : (Fld.sample v).size = 6 := rfl
@[simp] theorem size_interval (n : Nat) : (Fld.interval n).size = 6 := rfl
@[simp] theorem size_pt (n : Int) : (Fld.pt n).size = 8 := rfl
@[simp] theorem size_ptSigned (v : Int) : (Fld.ptSigned v).size = 8 := rfl

/-- The bytes of a reply's result fields. -/
def replySize (l : List Fld) : Nat := (l.map Fld.size).sum

theorem length_fieldBytes (w : Nat) (signed : Bool) (v : Int) : (fieldBytes w signed v).length = w := by
  unfold fieldBytes bytesOf
  dsimp only
  rw [apply_ite List.length, List.length_map, List.length_map, List.length_range, ite_self]

theorem Fld.length_bytes (f : Fld) : f.bytes.length = f.size := by
  cases f <;> simp [Fld.bytes, Fld.size, length_fieldBytes]

theorem length_flatMap_bytes (l : List Fld) : (l.flatMap Fld.bytes).length = replySize l := by
  rw [List.length_flatMap, replySize]
  exact congrArg List.sum (List.map_congr_left fun f _ => f.length_bytes)

@[simp] theorem replySize_nil : replySize [] = 0 := rfl

@[simp] theorem replySize_cons (f : Fld) (l : List Fld) : replySize (f :: l) = f.size + replySize l := by simp [replySize]

@[simp] theorem replySize_append (l m : List Fld) : replySize (l ++ m) = replySize l + replySize m := by simp [replySize]

/-- Records of one size, one after another. -/
theorem replySize_flatten {n : Nat} {l : List (List Fld)} (h : ∀ x ∈ l, replySize x = n) : replySize l.flatten = l.length * n := by
  induction l with
  | nil => simp
  | cons x l ih =>
    rw [List.flatten_cons, replySize_append, ih fun y hy => h y (List.mem_cons_of_mem _ hy), h x List.mem_cons_self, List.length_cons]
    ring

theorem replySize_flatMap {α : Type} {f : α → List Fld} {n : Nat} (h : ∀ x, replySize (f x) = n) (l : List α) :
    replySize (l.flatMap f) = l.length * n := by
  have hall : ∀ x ∈ l.map f, replySize x = n := fun x hx => by
    obtain ⟨y, -, rfl⟩ := List.mem_map.mp hx
    exact h y
  rw [List.flatMap, replySize_flatten hall, List.length_map]

/-! ### The records that replies are made of -/

@[simp] theorem size_indicator (b : Bool) : (indicator b).size = 1 := rfl

@[simp] theorem size_present {α : Type} (x : Option α) : (present x).size = 1 := rfl

@[simp] theorem size_attnField (s : State) : (attnField s).size = 1 := rfl

@[simp] theorem size_stallField (s : State) : (stallField s).size = 1 := rfl

@[simp] theorem size_labelField (l : Lane) (c : Option Nat) : (l.labelField c).size = 5 := rfl

theorem replySize_flagsWhere (s : State) (p : Nat → FlagRec → Bool) : replySize (flagList (s.flagsWhere p)) ≤ 25 := by
  have hlen : (s.flagsWhere p).length ≤ 24 := (List.length_filter_le _ _).trans (by rw [List.length_map, List.length_range])
  have hsum : replySize ((s.flagsWhere p).map .code) = (s.flagsWhere p).length := by
    rw [List.map_eq_flatMap, replySize_flatMap (n := 1) fun x => rfl, mul_one]
  rw [flagList, replySize_cons, hsum]
  exact (Nat.add_le_add_left hlen 1)

theorem replySize_currentFields (s : State) (a : Anchor) (current : Option Int) : replySize (s.currentFields a current) = 11 := by cases a <;> rfl

theorem replySize_anchor (a : Anchor) : replySize a.fields = 27 := by cases a <;> rfl

theorem replySize_latched (l : Lane) : replySize l.latchedFields = 27 := by
  unfold Lane.latchedFields
  cases l.latched <;> rfl

theorem replySize_newest (d : Device) : replySize d.newestFields = 8 := by
  unfold Device.newestFields
  cases d.ring.head? <;> rfl

theorem replySize_addFields (s : State) (slot width interval : Nat) (m : Conds) : replySize (s.addFields slot width interval m) = 41 := by
  unfold State.addFields
  cases s.cue slot <;> simp [replySize_currentFields]

theorem replySize_cueFields (s : State) (slot : Nat) : replySize (s.cueFields slot) ≤ 104 := by
  unfold State.cueFields
  cases s.cue slot <;> simp [replySize_currentFields, replySize_anchor, stagedFields]

/-! ### The answer to each request -/

@[simp] theorem accept_fields (s : State) (l : List Fld) : (accept s l).2.fields = l := rfl

@[simp] theorem refuse_fields (st : Status) (s : State) : (refuse st s).2.fields = [] := rfl

@[simp] theorem refuseMet_fields (i : Nat) (m : Conds) (c : Cond) (s : State) : (refuseMet i m c s).2.fields = [] := rfl

/-- A request whose answer in every state that keeps the laws is small enough for its frame. -/
def Small (x : State → Host.Outcome State Fault Refusal) : Prop :=
  ∀ s t a, s.Laws → s.resetLow = false → x s = .next t → t.answer = some a → replySize a.fields ≤ 251

theorem small_request {f : State → State × Answer} (hf : ∀ s, s.Laws → replySize (f s).2.fields ≤ 251) : Small (request f) := by
  intro s t a hs hlow ht ha
  rw [request_live hlow] at ht
  cases ht
  cases ha
  exact hf s hs

section
variable {n : Nat}

theorem withDevice_fields {s : State} {f : Device → State → State × Answer} (hf : ∀ d, s.device n = some d → replySize (f d s).2.fields ≤ 251) :
    replySize (withDevice n f s).2.fields ≤ 251 := by
  unfold withDevice
  split
  · simp
  · split
    · simp
    · next d hd => exact hf d hd

end

theorem small_general : Small execIdentify ∧ Small execStatus ∧ Small execFlags ∧ Small execRestart :=
  ⟨small_request fun s _ => by simp, small_request fun s _ => by simp,
    small_request fun s _ => by
      have h1 := replySize_flagsWhere s fun _ f => f.set
      have h2 := replySize_flagsWhere s fun _ f => f.enable
      simp only [accept_fields, replySize_append, replySize_cons, replySize_nil, size_attnField, State.setFlags, State.enabledFlags]
      omega,
    small_request fun s _ => by simp⟩

theorem small_ack (l : List Nat) : Small (execAck l) := small_request fun s _ => by
  split
  · have h1 := replySize_flagsWhere s fun n f => l.contains n && f.set && f.seen
    have h2 := replySize_flagsWhere s fun n f => l.contains n && f.set && !f.seen
    simp only [accept_fields, replySize_append, replySize_cons, replySize_nil, size_attnField]
    omega
  · simp

theorem small_attnEnable (l : List Nat) : Small (execAttnEnable l) := small_request fun s _ => by
  split
  · have h1 := replySize_flagsWhere (s.mapFlags fun n f => { f with enable := l.contains n }) fun _ f => f.set
    have h2 := replySize_flagsWhere (s.mapFlags fun n f => { f with enable := l.contains n }) fun _ f => f.enable
    simp only [accept_fields, replySize_append, replySize_cons, replySize_nil, size_attnField, State.setFlags, State.enabledFlags]
    omega
  · simp

theorem small_sources (a b c : Nat) (v : Int) :
    Small (execSourceConfig a b c) ∧ Small (execSourceSelect a) ∧ Small execSourceQuery ∧ Small (execTrimCal a v) :=
  ⟨small_request fun s _ => by dsimp only; split_ifs <;> simp, small_request fun s _ => by dsimp only; split_ifs <;> simp,
    small_request fun s _ => by simp [SourceRec.fields], small_request fun s _ => by dsimp only; split_ifs <;> simp⟩

theorem small_ref (a b d : Nat) (v : Int) : Small (execRefConfig a b v d) ∧ Small execRefQuery :=
  ⟨small_request fun s _ => by split <;> simp [RefMon.configFields], small_request fun s _ => by simp [RefMon.configFields]⟩

theorem small_timebase (a b : Nat) (v w : Int) :
    Small (execTimeSet a) ∧ Small execTimeGet ∧ Small (execDisciplineConfig a v w b) ∧ Small execTbQuery :=
  ⟨small_request fun s _ => by dsimp only; split <;> simp, small_request fun s _ => by simp,
    small_request fun s _ => by split <;> simp [Timebase.settingFields], small_request fun s _ => by simp [Timebase.settingFields]⟩

theorem small_laneDefine (a b c d e f g k : Nat) (v w : Int) (l : Label) : Small (execLaneDefine a b v c d w e f g k l) :=
  small_request fun s _ => by
    dsimp only
    split_ifs
    · simp
    · simp
    · simp
    all_goals
      split
      · simp
      · simp [soundFields]

theorem small_laneState (a : Nat) (l : Label) : Small (execLaneClear a) ∧ Small (execLaneHold a) ∧ Small (execLaneSetLabel a l) ∧ Small (execLaneRelease a) :=
  ⟨small_request fun s _ => by split_ifs <;> simp,
    small_request fun s _ => by
      dsimp only
      split
      · simp
      · split <;> simp,
    small_request fun s _ => by
      dsimp only
      split_ifs
      · simp
      · simp
      · simp
      · simp
      · split <;> simp,
    small_request fun s _ => by dsimp only; split_ifs <;> simp⟩

theorem small_laneRead (a b c d e f g k : Nat) (v w : Int) (l : Label) :
    Small (execLaneConvert a b c l d v w) ∧ Small (execLaneExceptions a b c d e f g k) ∧ Small (execLaneQuery a) :=
  ⟨small_request fun s _ => by
      dsimp only
      split_ifs
      · simp
      · simp
      · simp
      · simp
      · split <;> simp [condFields],
    small_request fun s _ => by dsimp only; split_ifs <;> simp [condFields, maskFields],
    small_request fun s _ => by dsimp only; split_ifs <;> simp [condFields, maskFields, soundFields, replySize_latched]⟩

theorem small_laneJam (a b : Nat) : Small (execLaneJam a b) := small_request fun s _ => by
  dsimp only
  split_ifs
  · simp
  · simp
  · simp
  · split
    · simp
    · split <;> simp

theorem small_pulseAssign (a b c d : Nat) (v : Int) : Small (execPulseAssign a b v c d) := small_request fun s _ => by dsimp only; split_ifs <;> simp

theorem small_marks (a b c d e f g : Nat) : Small (execMarkConfig a b c d e f g) ∧ Small (execMarkQuery a) :=
  ⟨small_request fun s _ => by dsimp only; split_ifs <;> simp,
    small_request fun s hs => by
      dsimp only
      split_ifs with ha
      · simp
      · obtain ⟨-, -, -, -, -, -, -, -, -, -, -, hfifo, -⟩ := hs.mark_ok a
        have hsize := replySize_flatMap (f := fun k : Mark => k.fields (s.mark a).window s.tb.pt) (n := 16) (fun k => rfl) (s.mark a).fifo
        simp only [accept_fields, replySize_append, hsize]
        simp
        omega⟩

theorem small_deviceRegister (a b c d e f g k : Nat) (u v w x : Int) : Small (execDeviceRegister a b c d u v w e f g k x) :=
  small_request fun s _ => by
    dsimp only
    split
    · simp
    · split
      · simp
      · split_ifs <;> simp [Device.settingFields]

theorem small_deviceState (a : Nat) : Small (execDeviceRemove a) ∧ Small (execDeviceResetTrack a) ∧ Small (execDeviceQuery a) :=
  ⟨small_request fun s _ => withDevice_fields fun d _ => by simp, small_request fun s _ => withDevice_fields fun d _ => by simp,
    small_request fun s _ => withDevice_fields fun d _ => by simp [Device.settingFields, estimateFields]⟩

theorem small_deviceReport (a b c d : Nat) (l : Label) : Small (execDeviceReport a l b c d) := small_request fun s _ => withDevice_fields fun d _ => by
  dsimp only
  split_ifs
  · simp
  · simp
  · simp
  · simp
  · simp
  · simp
  all_goals
    split
    · simp
    · simp [reportFields, replySize_newest, estimateFields]

/-- The ring of eight entries is the longest reply (R139). -/
theorem small_deviceRing (a : Nat) : Small (execDeviceRing a) := small_request fun s hs => withDevice_fields fun d hd => by
  have hring : d.ring.length ≤ 8 := (hs.device_ok hd).1.length
  have hsize := replySize_flatten (n := 31) (l := d.ring.mapIdx fun j o => o.fields (s.lane d.lane) ((d.top + j) % 8)) fun x hx => by
    obtain ⟨j, hj, rfl⟩ := List.mem_mapIdx.mp hx
    rfl
  rw [List.length_mapIdx] at hsize
  simp only [accept_fields, replySize_append, hsize]
  simp
  omega

theorem small_cueAdd (a b c d e f g i j k : Nat) (v w x : Int) (l : Label) : Small (execCueAdd a b c d l v w e x f g i j k) :=
  small_request fun s _ => by
    dsimp only
    split_ifs
    · simp
    · simp
    · simp
    · simp
    · split
      · simp
      · simp [replySize_addFields]

theorem small_cues (a b c : Nat) (v : Int) : Small (execCueCancel a) ∧ Small (execCueModify a v b c) ∧ Small (execCueQuery a) ∧ Small (execCueList a) :=
  ⟨small_request fun s _ => by
      split
      · simp
      · split <;> simp,
    small_request fun s _ => by
      split
      · simp
      · split
        · simp
        · dsimp only; split_ifs <;> simp,
    small_request fun s _ => by
      split
      · simp
      · exact (replySize_cueFields s a).trans (by decide),
    small_request fun s _ => by
      split
      · simp
      · have hlen : ((s.dues.drop a).take 24).length ≤ 24 := List.length_take_le _ _
        have hsize := replySize_flatMap (f := fun i => [Fld.code i, .pt (s.dueOf i : Nat)]) (n := 9) (fun i => rfl) ((s.dues.drop a).take 24)
        simp only [accept_fields, replySize_append, hsize]
        simp
        omega⟩

theorem small_lines (a b c : Nat) : Small (execOutputSet a b c) ∧ Small (execOutputQuery a) :=
  ⟨small_request fun s _ => by dsimp only; split_ifs <;> simp, small_request fun s _ => by dsimp only; split_ifs <;> simp⟩

/-- The owning block's answer to a request is small enough, whatever the request. -/
theorem small_serve {i : Instr} (hi : (requestFields i).isSome = true) : Small (serve i) := by
  cases i
  case identify => exact small_general.1
  case status => exact small_general.2.1
  case flags => exact small_general.2.2.1
  case ack l => exact small_ack l
  case attnEnable l => exact small_attnEnable l
  case restart => exact small_general.2.2.2
  case sourceConfig a b c => exact (small_sources a b c 0).1
  case sourceSelect a => exact (small_sources a 0 0 0).2.1
  case sourceQuery => exact (small_sources 0 0 0 0).2.2.1
  case trimCal a v => exact (small_sources a 0 0 v).2.2.2
  case refConfig a b v c => exact (small_ref a b c v).1
  case refQuery => exact (small_ref 0 0 0 0).2
  case timeSet t => exact (small_timebase t 0 0 0).1
  case timeGet => exact (small_timebase 0 0 0 0).2.1
  case disciplineConfig a v w b => exact (small_timebase a b v w).2.2.1
  case tbQuery => exact (small_timebase 0 0 0 0).2.2.2
  case laneDefine a b v c d w e f g k l => exact small_laneDefine a b c d e f g k v w l
  case laneClear a => exact (small_laneState a zeroLabel).1
  case laneHold a => exact (small_laneState a zeroLabel).2.1
  case laneSetLabel a l => exact (small_laneState a l).2.2.1
  case laneRelease a => exact (small_laneState a zeroLabel).2.2.2
  case laneJam a b => exact small_laneJam a b
  case laneConvert a b c l d v w => exact (small_laneRead a b c d 0 0 0 0 v w l).1
  case laneExceptions a b c d e f g k => exact (small_laneRead a b c d e f g k 0 0 zeroLabel).2.1
  case laneQuery a => exact (small_laneRead a 0 0 0 0 0 0 0 0 0 zeroLabel).2.2
  case pulseAssign a b v c d => exact small_pulseAssign a b c d v
  case markConfig a b c d e f g => exact (small_marks a b c d e f g).1
  case markQuery a => exact (small_marks a 0 0 0 0 0 0).2
  case deviceRegister a b c d u v w e f g k x => exact small_deviceRegister a b c d e f g k u v w x
  case deviceRemove a => exact (small_deviceState a).1
  case deviceResetTrack a => exact (small_deviceState a).2.1
  case deviceReport a l b c d => exact small_deviceReport a b c d l
  case deviceQuery a => exact (small_deviceState a).2.2
  case deviceRing a => exact small_deviceRing a
  case cueAdd a b c d l v w e x f g i j k => exact small_cueAdd a b c d e f g i j k v w x l
  case cueCancel a => exact (small_cues a 0 0 0).1
  case cueModify a v b c => exact (small_cues a b c v).2.1
  case cueQuery a => exact (small_cues a 0 0 0).2.2.1
  case cueList a => exact (small_cues a 0 0 0).2.2.2
  case outputSet a b c => exact (small_lines a b c).1
  case outputQuery a => exact (small_lines a 0 0).2
  all_goals exact absurd hi Bool.false_ne_true

/-- Settles O13: the sizes of each request's fields, the lists bounded by the laws. -/
theorem noReplyExceedsItsFrame : Obligations.NoReplyExceedsItsFrame := by
  unfold Obligations.NoReplyExceedsItsFrame
  intro s t i a hs hlow hi ht ha
  rw [← (serve_request hi s).1] at ht
  have hsize := small_serve hi s t a ((lawful_iff s).mp hs).2 hlow ht ha
  rw [length_flatMap_bytes]
  omega

end Sys2Proof.Machine
end

section
/-! Requests laid out in frames and read back (sections 10.5 and 10.8). -/

namespace Sys2Proof.Machine

/-! ### Numbers in bytes -/

theorem readU_concat (l : List Byte) (b : Byte) : readU (l ++ [b]) = 256 * readU l + b.toNat := by
  rw [readU, List.foldl_append]
  rfl

theorem bytesOf_succ (w n : Nat) : bytesOf (w + 1) n = bytesOf w (n / 256) ++ [BitVec.ofNat 8 n] := by
  rw [bytesOf, List.range_succ, List.map_append, bytesOf]
  congr 1
  · refine List.map_congr_left fun i hi => ?_
    have hlt := List.mem_range.mp hi
    rw [byteOf, byteOf, Nat.div_div_eq_div_mul, ← pow_succ', show w + 1 - 1 - i = w - 1 - i + 1 by omega]
  · simp [byteOf]

/-- A number is read back from its bytes (R186). -/
theorem readU_bytesOf {w n : Nat} (h : n < 256 ^ w) : readU (bytesOf w n) = n := by
  induction w generalizing n with
  | zero => rw [show n = 0 by simpa using h]; rfl
  | succ w ih =>
    rw [bytesOf_succ, readU_concat, ih (by rw [pow_succ] at h; omega), BitVec.toNat_ofNat]
    omega

theorem length_bytesOf (w n : Nat) : (bytesOf w n).length = w := by simp [bytesOf]

theorem readU_fieldBytes {w n : Nat} (h : fitsU w n = true) : readU (fieldBytes w false n) = n := by
  have hlt : n < 256 ^ w := of_decide_eq_true h
  have hcast : (n : Int) < (256 ^ w : Nat) := by exact_mod_cast hlt
  rw [fieldBytes]
  simp only [Bool.false_eq_true, if_false]
  rw [if_pos ⟨by omega, hcast⟩, Int.emod_eq_of_lt (by omega) hcast, Int.toNat_natCast, readU_bytesOf hlt]

/-- A signed number is read back from its bytes, two's complement (R186). -/
theorem readS_fieldBytes {w : Nat} (hw : 0 < w) {v : Int} (h : fitsS w v = true) : readS (fieldBytes w true v) = v := by
  have hrange : -(256 ^ w / 2 : Nat) ≤ v ∧ v < (256 ^ w / 2 : Nat) := of_decide_eq_true h
  obtain ⟨half, hhalf⟩ : 2 ∣ 256 ^ w := dvd_pow (by decide) hw.ne'
  rw [fieldBytes]
  simp only [if_true]
  have hmod : 0 ≤ v % (256 ^ w : Nat) ∧ v % (256 ^ w : Nat) < (256 ^ w : Nat) := ⟨Int.emod_nonneg _ (by omega), Int.emod_lt_of_pos _ (by omega)⟩
  rw [if_pos hrange, readS, length_bytesOf, readU_bytesOf (by omega)]
  rcases lt_or_ge v 0 with hneg | hpos
  · rw [Int.emod_eq_add_self_emod, Int.emod_eq_of_lt (by omega) (by omega), if_neg (by omega)]; omega
  · rw [Int.emod_eq_of_lt hpos (by omega), if_pos (by omega)]; omega

/-! ### Fields in bytes -/

/-- The class that a request's field is read in. -/
def Fld.cls : Fld → Cls
  | .code _ => .code
  | .short _ => .short
  | .word _ => .word
  | .ppb _ => .ppb
  | .ticks _ | .index _ => .ticks
  | .sample _ => .sample
  | .interval _ => .interval
  | .pt _ | .ptSigned _ => .pt
  | .label _ => .label

/-- A request's field lies in its class (R186). -/
def Fld.fits : Fld → Bool
  | .code n => fitsU 1 n
  | .short n => fitsU 2 n
  | .word n => fitsU 4 n
  | .ppb v => fitsS 4 v
  | .ticks v | .sample v => fitsS 6 v
  | .interval n => fitsU 6 n
  | .pt v => decide (0 ≤ v) && fitsU 8 v.toNat
  | .label l => l.fits
  | .index _ | .ptSigned _ => false

theorem Fld.width_cls (f : Fld) : f.cls.width = f.size := by cases f <;> rfl

theorem fieldBytes_one {n : Nat} (h : fitsU 1 n = true) : fieldBytes 1 false n = [BitVec.ofNat 8 n] ∧ (BitVec.ofNat 8 n).toNat = n := by
  have hlt : n < 256 ^ 1 := of_decide_eq_true h
  have hcast : (n : Int) < (256 ^ 1 : Nat) := by exact_mod_cast hlt
  refine ⟨?_, by rw [BitVec.toNat_ofNat]; omega⟩
  rw [fieldBytes]
  simp only [Bool.false_eq_true, if_false]
  rw [if_pos ⟨by omega, hcast⟩, Int.emod_eq_of_lt (by omega) hcast, Int.toNat_natCast, bytesOf_succ]
  rfl

/-- A field is read back from its bytes (R186, R187). -/
theorem Fld.read_bytes {f : Fld} (h : f.fits = true) : f.cls.read f.bytes = f := by
  cases f with
  | code n => rw [Fld.fits] at h; rw [Fld.cls, Fld.bytes, Cls.read, readU_fieldBytes h]
  | short n => rw [Fld.fits] at h; rw [Fld.cls, Fld.bytes, Cls.read, readU_fieldBytes h]
  | word n => rw [Fld.fits] at h; rw [Fld.cls, Fld.bytes, Cls.read, readU_fieldBytes h]
  | interval n => rw [Fld.fits] at h; rw [Fld.cls, Fld.bytes, Cls.read, readU_fieldBytes h]
  | ppb v => rw [Fld.fits] at h; rw [Fld.cls, Fld.bytes, Cls.read, readS_fieldBytes (by decide) h]
  | ticks v => rw [Fld.fits] at h; rw [Fld.cls, Fld.bytes, Cls.read, readS_fieldBytes (by decide) h]
  | sample v => rw [Fld.fits] at h; rw [Fld.cls, Fld.bytes, Cls.read, readS_fieldBytes (by decide) h]
  | pt v =>
    obtain ⟨hpos, hfit⟩ := (Bool.and_eq_true _ _).mp h
    obtain ⟨n, rfl⟩ := Int.eq_ofNat_of_zero_le (of_decide_eq_true hpos)
    rw [Int.toNat_natCast] at hfit
    rw [Fld.cls, Fld.bytes, Cls.read, readU_fieldBytes hfit]
  | label l =>
    obtain ⟨hh, mm, ss, ff, ind⟩ := l
    simp only [Fld.fits, Label.fits, Bool.and_eq_true] at h
    obtain ⟨⟨⟨⟨h1, h2⟩, h3⟩, h4⟩, h5⟩ := h
    obtain ⟨b1, v1⟩ := fieldBytes_one h1
    obtain ⟨b2, v2⟩ := fieldBytes_one h2
    obtain ⟨b3, v3⟩ := fieldBytes_one h3
    obtain ⟨b4, v4⟩ := fieldBytes_one h4
    obtain ⟨b5, v5⟩ := fieldBytes_one h5
    rw [Fld.bytes]
    dsimp only
    rw [b1, b2, b3, b4, b5]
    change Fld.label ⟨(BitVec.ofNat 8 hh).toNat, (BitVec.ofNat 8 mm).toNat, (BitVec.ofNat 8 ss).toNat, (BitVec.ofNat 8 ff).toNat, (BitVec.ofNat 8 ind).toNat⟩ = _
    rw [v1, v2, v3, v4, v5]
  | index v | ptSigned v => cases h

/-- A body's fields are read back in order (section 10.8). -/
theorem readFields_bytes {l : List Fld} (h : l.all Fld.fits = true) : readFields (l.map Fld.cls) (l.flatMap Fld.bytes) = l := by
  induction l with
  | nil => rfl
  | cons f l ih =>
    obtain ⟨hf, hl⟩ := (Bool.and_eq_true _ _).mp h
    have hlen : f.bytes.length = f.cls.width := by rw [Fld.length_bytes, Fld.width_cls]
    rw [List.map_cons, List.flatMap_cons, readFields, ← hlen, List.take_left, List.drop_left, Fld.read_bytes hf, ih hl]

theorem layoutLength_cls (l : List Fld) : layoutLength (l.map Fld.cls) = replySize l := by
  rw [layoutLength, replySize, List.map_map]
  exact congrArg List.sum (List.map_congr_left fun f _ => f.width_cls)

/-! ### Requests in frames -/

/-- A command as a frame's kind and fields carry it: each field in its class, the layout and the command those of the kind. -/
structure Laid (i : Instr) (kind : Nat) (l : List Fld) : Prop where
  byte : kind < 256
  fits : l.all Fld.fits = true
  classes : layout kind (l.flatMap Fld.bytes) = some (l.map Fld.cls)
  command : commandOf kind l = some i
  size : replySize l ≤ 252

/-- A command laid out is judged to be that command. -/
theorem Laid.judged {i : Instr} {kind : Nat} {l : List Fld} (h : Laid i kind l) (tag : Byte) :
    judge ⟨BitVec.ofNat 8 kind, tag, l.flatMap Fld.bytes⟩ = .command i := by
  have hkind : (BitVec.ofNat 8 kind).toNat = kind := by
    rw [BitVec.toNat_ofNat]; exact Nat.mod_eq_of_lt h.byte
  have hlen : lengthFits kind (l.flatMap Fld.bytes) (l.map Fld.cls) = true := by
    rw [lengthFits, layoutLength_cls, length_flatMap_bytes]
    split
    · exact decide_eq_true le_rfl
    · exact beq_self_eq_true _
  rw [judge]
  simp only [hkind, h.classes, hlen, if_true, readFields_bytes h.fits, h.command]

/-- A first byte, and a second one, read as the codes they carry. -/
theorem byteAt_codes {m : Nat} (hm : fitsU 1 m = true) (l : List Fld) :
    byteAt ((Fld.code m :: l).flatMap Fld.bytes) 0 = m
      ∧ ∀ f : Fld, f.size = 1 → byteAt ((f :: Fld.code m :: l).flatMap Fld.bytes) 1 = m := by
  obtain ⟨hb, hv⟩ := fieldBytes_one hm
  have hcode : (Fld.code m).bytes = [BitVec.ofNat 8 m] := hb
  refine ⟨?_, fun f hf => ?_⟩
  · rw [List.flatMap_cons, hcode]; exact hv
  · obtain ⟨b, hb⟩ := List.length_eq_one_iff.mp ((Fld.length_bytes f).trans hf)
    rw [List.flatMap_cons, List.flatMap_cons, hcode, hb]; exact hv

theorem nat_codes (l : List Nat) : (l.map Fld.code).map Fld.nat = l := by
  rw [List.map_map]
  exact List.map_id l

/-- A list of flags laid out (R162). -/
theorem laid_flags {l : List Nat} (h : flagsFit l = true) {i : Instr} {kind : Nat} (hkind : kind < 256)
    (hlayout : ∀ body, layout kind body = some (.code :: List.replicate (byteAt body 0) .code))
    (hcommand : ∀ f, commandOf kind (f :: l.map .code) = some i) : Laid i kind (.code l.length :: l.map .code) := by
  obtain ⟨hlen, hall⟩ := (Bool.and_eq_true _ _).mp h
  have hlen : l.length ≤ 251 := of_decide_eq_true hlen
  have hfit : fitsU 1 l.length = true := decide_eq_true (by omega)
  have hsize : replySize (l.map .code) = l.length := by
    rw [List.map_eq_flatMap, replySize_flatMap (n := 1) fun x => rfl, mul_one]
  refine ⟨hkind, ?_, ?_, hcommand _, ?_⟩
  · rw [List.all_cons, List.all_map]
    exact (Bool.and_eq_true _ _).mpr ⟨hfit, hall⟩
  · rw [hlayout, (byteAt_codes hfit _).1, List.map_cons, List.map_map]
    exact congrArg some (congrArg _ List.map_const'.symm)
  · rw [replySize_cons, hsize, size_code]; omega

/-- The classes of a LANE_CONVERT's body, by its direction. -/
def convertClasses : Nat → List Cls
  | 0 => [.code, .code, .pt]
  | 1 => [.code, .code, .label, .code, .ticks]
  | 2 => [.code, .code, .sample]
  | _ => [.code, .code]

theorem layout_convert (body : List Byte) : layout 0x36 body = some (convertClasses (byteAt body 1)) := by
  change some (convertLayout body) = _
  unfold convertLayout convertClasses
  rfl

/-- A LANE_CONVERT in the form of a frame, laid out by its direction (R95). -/
theorem laid_laneConvert {a d t e : Nat} {l : Label} {v w : Int} (hwf : (Instr.laneConvert a d t l e v w).WellFormed = true)
    (hform : frameForm (.laneConvert a d t l e v w) = true) :
    Laid (.laneConvert a d t l e v w) 0x36
      ([.code a, .code d] ++ (if d = 0 then [.pt t] else if d = 1 then [.label l, .code e, .ticks v] else if d = 2 then [.sample w] else [])) := by
  simp only [Instr.WellFormed, Bool.and_eq_true, and_assoc] at hwf
  obtain ⟨ha, hd, ht, hl, he, hv, hw⟩ := hwf
  simp only [frameForm, Bool.and_eq_true, Bool.or_eq_true, beq_iff_eq, and_assoc] at hform
  obtain ⟨h0, h1, h2⟩ := hform
  have hlayout : ∀ rest, layout 0x36 ((.code a :: .code d :: rest : List Fld).flatMap Fld.bytes) = some (convertClasses d) := fun rest => by
    rw [layout_convert, (byteAt_codes hd rest).2 (.code a) rfl]
  rcases (by omega : d = 0 ∨ d = 1 ∨ d = 2 ∨ 3 ≤ d) with rfl | rfl | rfl | hd3
  · obtain ⟨rfl, rfl, rfl⟩ := h1.resolve_left (by decide)
    obtain rfl := h2.resolve_left (by decide)
    change Laid _ 0x36 [.code a, .code 0, .pt t]
    exact ⟨by decide, by simp [Fld.fits, ha, hd, ht], hlayout _, rfl, by simp⟩
  · obtain rfl := h0.resolve_left (by decide)
    obtain rfl := h2.resolve_left (by decide)
    change Laid _ 0x36 [.code a, .code 1, .label l, .code e, .ticks v]
    exact ⟨by decide, by simp [Fld.fits, ha, hd, hl, he, hv], hlayout _, rfl, by simp⟩
  · obtain rfl := h0.resolve_left (by decide)
    obtain ⟨rfl, rfl, rfl⟩ := h1.resolve_left (by decide)
    change Laid _ 0x36 [.code a, .code 2, .sample w]
    exact ⟨by decide, by simp [Fld.fits, ha, hd, hw], hlayout _, rfl, by simp⟩
  · obtain ⟨d, rfl⟩ := Nat.exists_eq_add_of_le' hd3
    obtain rfl := h0.resolve_left (by omega)
    obtain ⟨rfl, rfl, rfl⟩ := h1.resolve_left (by omega)
    obtain rfl := h2.resolve_left (by omega)
    have hcommand : commandOf 0x36 [.code a, .code (d + 3)] = some (.laneConvert a (d + 3) 0 ⟨0, 0, 0, 0, 0⟩ 0 0 0) := by
      simp [commandOf, Fld.nat]
    change Laid _ 0x36 [.code a, .code (d + 3)]
    exact ⟨by decide, by simp [Fld.fits, ha, hd], hlayout _, hcommand, by simp⟩

/-- Every well-formed request is laid out so that its frame carries it. -/
theorem laid_request {i : Instr} (hwf : i.WellFormed = true) (hform : frameForm i = true) {kind : Nat} {l : List Fld}
    (h : requestFields i = some (kind, l)) : Laid i kind l := by
  cases i
  case ack l => cases h; exact laid_flags hwf (by decide) (fun _ => rfl) fun _ => congrArg (fun l => some (Instr.ack l)) (nat_codes l)
  case attnEnable l => cases h; exact laid_flags hwf (by decide) (fun _ => rfl) fun _ => congrArg (fun l => some (Instr.attnEnable l)) (nat_codes l)
  case laneConvert a d t l e v w => cases h; exact laid_laneConvert hwf hform
  all_goals
    cases h
    all_goals exact ⟨by decide, by simp_all [Instr.WellFormed, Fld.fits], rfl, rfl, by simp⟩

/-- Settles O6: each request's fields are read back from the layout of its kind. -/
theorem requestFramesDecodeToTheirRequests : Obligations.RequestFramesDecodeToTheirRequests := by
  unfold Obligations.RequestFramesDecodeToTheirRequests
  intro i tag fr hwf hform hfr
  obtain ⟨⟨kind, l⟩, hfields, rfl⟩ := Option.map_eq_some_iff.mp hfr
  have hlaid := laid_request hwf hform hfields
  exact ⟨rfl, (length_flatMap_bytes l).trans_le hlaid.size, hlaid.judged tag⟩

end Sys2Proof.Machine
end

section
/-! The series of dues after a firing (R141, R142, R147): the words of the statements and what the model finds. -/

namespace Sys2Proof.Machine

/-! ### Dues at even spacing -/

section
variable {first gap t : Int} {n : Nat}

theorem ceilDiv_pred_lt (a : Int) {b : Int} (hb : 0 < b) : (ceilDiv a b - 1) * b < a := by
  have hdiv := Int.mul_ediv_add_emod (-a) b
  have hlt := Int.emod_lt_of_pos (-a) hb
  have : (ceilDiv a b - 1) * b = -(b * (-a / b)) - b := by rw [ceilDiv]; ring
  omega

/-- A quotient rounded up is at most a whole number exactly if the quotient is. -/
theorem ceilDiv_le_iff (a k : Int) {b : Int} (hb : 0 < b) : ceilDiv a b ≤ k ↔ a ≤ k * b := by
  have h1 := le_ceilDiv_mul a hb
  have h2 := ceilDiv_pred_lt a hb
  constructor
  · intro h; nlinarith
  · intro h
    by_contra hlt
    nlinarith

/-- The dues before `t` are those passed over, where the next one is at or after it (R147). -/
theorem passedOver_eq (hlow : n = 0 ∨ 0 < gap ∧ first + (n - 1) * gap < t) (hhigh : t ≤ first + n * gap) : passedOver first gap t = n := by
  unfold passedOver
  rcases hlow with rfl | ⟨hgap, hlow⟩
  · exact if_pos (by simpa using hhigh)
  · rcases Nat.eq_zero_or_pos n with rfl | hn
    · exact if_pos (by simpa using hhigh)
    · have hone : (1 : Int) ≤ n := by exact_mod_cast hn
      rw [if_neg (by nlinarith), ceilDiv_unique (k := n) (by linarith) (by linarith), Int.toNat_natCast]

/-- Every due that lies before `t` is passed over. -/
theorem le_passedOver (hgap : 0 < gap) (hn : 1 ≤ n) (hlow : first + (n - 1) * gap < t) : n ≤ passedOver first gap t := by
  have hone : (1 : Int) ≤ n := by exact_mod_cast hn
  have hceil : (n : Int) - 1 < ceilDiv (t - first) gap := by
    rw [← not_le, ceilDiv_le_iff _ _ hgap]; linarith
  unfold passedOver
  rw [if_neg (by nlinarith)]
  omega

end

/-! ### Firings used -/

theorem useFirings_of_lt {left : Option Nat} {n : Nat} (h : ∀ m ∈ left, n < m) : useFirings left n = some (left.map (· - n)) := by
  cases left with
  | none => rfl
  | some f => rw [useFirings, if_pos (h f rfl)]; rfl

theorem useFirings_of_le {m n : Nat} (h : m ≤ n) : useFirings (some m) n = none := by rw [useFirings, if_neg (by omega)]

/-! ### Occurrences of a label -/

section
variable {l : Lane}

theorem Lane.nextOccurrence_of_next (h : l.rateOk) {c : Nat} {o r x : Int} (hx : Spec.next l c o r x) : l.nextOccurrence c o r = x := by
  obtain ⟨⟨j, hj⟩, hge, hlt⟩ := hx
  obtain ⟨⟨i, hi⟩, hge', hlt'⟩ := Lane.next_nextOccurrence h c o r
  rw [← l.baseOccurrence_place h] at hi hj
  have hd := h.dayTicks_pos
  change x < r + l.dayTicks at hlt
  change _ < r + l.dayTicks at hlt'
  have : i = j := by
    by_contra hne
    rcases lt_or_gt_of_ne hne with hij | hij <;> nlinarith
  rw [hi, hj, this]

/-! ### Matches of a pattern -/

theorem patternWild_iff {p : Label} : patternWild p = true ↔ Spec.any p := by
  simp only [patternWild, anyField, Spec.any, Bool.or_eq_true, beq_iff_eq, or_assoc]

theorem patternCovers_iff {p x : Label} : patternCovers p x = true ↔ Spec.covers p x := by
  simp only [patternCovers, fieldMatches, anyField, Spec.covers, Bool.and_eq_true, Bool.or_eq_true, beq_iff_eq, and_assoc]

theorem Lane.firstIndex_le_iff (h : l.rateOk) (r o k : Int) : l.firstIndex (r - o) ≤ k ↔ r ≤ Spec.place l k o := by
  have hp := h.period_ge
  rw [Lane.firstIndex, ceilDiv_le_iff _ _ (by omega), Spec.place]
  constructor <;> intro <;> linarith

theorem Lane.firstIndex_after (h : l.rateOk) (o k : Int) : l.firstIndex (Spec.place l k o + 1 - o) = k + 1 := by
  have hp := h.period_ge
  have hp' : (225000 : Int) ≤ l.period := by exact_mod_cast hp
  refine ceilDiv_unique ?_ ?_ <;> rw [Spec.place] <;> nlinarith

/-- The labels of a lane repeat after a day. -/
theorem Lane.labelAt_sub_day (k : Int) : l.labelAt (k - l.nDay) = l.labelAt k := by
  have : wrap (l.map.rawCount (k - l.nDay)) l.nDay = wrap (l.map.rawCount k) l.nDay := by
    rw [wrap, wrap, Mapping.rawCount, Mapping.rawCount, show l.map.c0 + (k - l.nDay - l.map.k0) = l.map.c0 + (k - l.map.k0) - l.nDay by ring,
      Int.sub_emod_right]
  rw [Lane.labelAt, Lane.labelAt, Lane.countAt, Lane.countAt, this]

variable {p : Label} {o t : Int}

/-- A search, in the words of the model. -/
theorem search_iff (h : l.rateOk) (r k : Int) :
    Spec.search l p o r k ↔ l.firstIndex (r - o) ≤ k ∧ patternCovers p (l.labelAt k) = true
      ∧ ∀ j < k, l.firstIndex (r - o) ≤ j → patternCovers p (l.labelAt j) = false := by
  rw [Spec.search, ← Lane.firstIndex_le_iff h]
  refine and_congr_right fun _ => and_congr patternCovers_iff.symm (forall_congr' fun j => imp_congr_right fun _ => ?_)
  rw [← Lane.firstIndex_le_iff h, ← Bool.not_eq_true]
  exact imp_congr_right fun _ => not_congr patternCovers_iff.symm

/-- The first match lies within a day of the search's start. -/
theorem search_within_day (h : l.rateOk) {r k : Int} (hk : Spec.search l p o r k) : k < l.firstIndex (r - o) + l.nDay := by
  obtain ⟨hge, hcov, hfirst⟩ := (search_iff h r k).mp hk
  by_contra hfar
  have hday := h.nDay_pos
  have := hfirst (k - l.nDay) (by omega) (by omega)
  rw [Lane.labelAt_sub_day, hcov] at this
  cases this

/-- The series walks over the indices that do not match. -/
theorem wildSeries_to_match {fuel : Nat} {left : Option Nat} {n : Nat} {k : Int}
    (hno : ∀ j, k ≤ j → j < k + n → patternCovers p (l.labelAt j) = false) :
    l.wildSeries p o t (fuel + n) k left = l.wildSeries p o t fuel (k + n) left := by
  induction n generalizing k with
  | zero => simp
  | succ n ih =>
    rw [show fuel + (n + 1) = (fuel + n) + 1 from rfl, Lane.wildSeries, if_neg (by rw [hno k le_rfl (by push_cast; omega)]; decide),
      ih fun j h1 h2 => hno j (by omega) (by push_cast; omega)]
    congr 1
    push_cast
    ring

/-- The series from its start takes the first match: it stops there where that is at or after `t`, and passes it over where it is not. -/
theorem wildSeries_search (h : l.rateOk) {r k : Int} (hk : Spec.search l p o r k) {fuel : Nat} (hfuel : k - l.firstIndex (r - o) < fuel) {left : Option Nat} :
    (t ≤ Spec.place l k o → l.wildSeries p o t fuel (l.firstIndex (r - o)) left = some (k, some left))
      ∧ (Spec.place l k o < t → useFirings left 1 = none → l.wildSeries p o t fuel (l.firstIndex (r - o)) left = some (k, none))
      ∧ (∀ left', Spec.place l k o < t → useFirings left 1 = some left' →
          l.wildSeries p o t fuel (l.firstIndex (r - o)) left
            = l.wildSeries p o t (fuel - 1 - (k - l.firstIndex (r - o)).toNat) (l.firstIndex (Spec.place l k o + 1 - o)) left') := by
  obtain ⟨hge, hcov, hfirst⟩ := (search_iff h r k).mp hk
  obtain ⟨n, hn⟩ := Int.eq_ofNat_of_zero_le (sub_nonneg.mpr hge)
  obtain ⟨fuel', rfl⟩ : ∃ f, fuel = f + 1 + n := ⟨fuel - 1 - n, by omega⟩
  have hwalk : l.wildSeries p o t (fuel' + 1 + n) (l.firstIndex (r - o)) left = l.wildSeries p o t (fuel' + 1) k left := by
    rw [wildSeries_to_match fun j h1 h2 => hfirst j (by omega) h1]
    congr 1
    omega
  have hplace : l.boundaryPt k + o = Spec.place l k o := rfl
  rw [hwalk, Lane.wildSeries, if_pos hcov, hplace]
  refine ⟨fun ht => if_pos ht, fun ht hu => ?_, fun left' ht hu => ?_⟩
  · rw [if_neg (not_le.mpr ht), hu]
  · rw [if_neg (not_le.mpr ht), hu, Lane.firstIndex_after h]
    dsimp only
    congr 1
    omega

/-- A chain of matches starts at or after its reference. -/
theorem chain_le (h : l.rateOk) {k : Int} (ks : List Int) : ∀ {r : Int}, Spec.chain l p o r (ks ++ [k]) → l.firstIndex (r - o) ≤ k := by
  induction ks with
  | nil => intro r hc; exact ((search_iff h _ _).mp hc.1).1
  | cons j ks ih =>
    intro r hc
    have hj := ((search_iff h _ _).mp hc.1).1
    have hk := ih hc.2
    rw [Lane.firstIndex_after h] at hk
    omega

/-- The series passes over a chain of matches before `t`, one firing each, to the match behind it: it stops there where that is at or after `t`, and
ends there where it is not and no firings remain (R142, R147). -/
theorem wildSeries_chain (h : l.rateOk) {k : Int} (ks : List Int) : ∀ {r : Int} {fuel : Nat} {left : Option Nat}, Spec.chain l p o r (ks ++ [k]) →
    (∀ j ∈ ks, Spec.place l j o < t) → k - l.firstIndex (r - o) < fuel →
    (t ≤ Spec.place l k o → (∀ m ∈ left, ks.length < m) →
        l.wildSeries p o t fuel (l.firstIndex (r - o)) left = some (k, some (left.map (· - ks.length))))
      ∧ (Spec.place l k o < t → left = some (ks.length + 1) → l.wildSeries p o t fuel (l.firstIndex (r - o)) left = some (k, none)) := by
  induction ks with
  | nil =>
    intro r fuel left hchain _ hfuel
    obtain ⟨hstop, hend, -⟩ := wildSeries_search h hchain.1 hfuel (left := left) (t := t)
    refine ⟨fun ht _ => ?_, fun ht hl => hend ht (by rw [hl]; rfl)⟩
    rw [hstop ht]
    simp
  | cons j ks ih =>
    intro r fuel left hchain hbefore hfuel
    obtain ⟨hsearch, hrest⟩ := hchain
    obtain ⟨hge, -, -⟩ := (search_iff h r j).mp hsearch
    have hnext : l.firstIndex (Spec.place l j o + 1 - o) = j + 1 := Lane.firstIndex_after h o j
    have hjk : j < k := by
      have := chain_le h ks hrest
      omega
    obtain ⟨-, -, hpass⟩ := wildSeries_search h hsearch (fuel := fuel) (by omega) (left := left) (t := t)
    have hjt := hbefore j List.mem_cons_self
    have hrec := fun left => ih (fuel := fuel - 1 - (j - l.firstIndex (r - o)).toNat) (left := left) hrest
      (fun i hi => hbefore i (List.mem_cons_of_mem _ hi)) (by rw [hnext]; omega)
    refine ⟨fun ht hl => ?_, fun ht hl => ?_⟩
    · have hone : useFirings left 1 = some (left.map (· - 1)) := useFirings_of_lt fun m hm => by have := hl m hm; rw [List.length_cons] at this; omega
      rw [hpass _ hjt hone, (hrec _).1 ht fun m hm => by
        obtain ⟨m', hm', rfl⟩ := Option.mem_map.mp hm
        have := hl m' hm'
        rw [List.length_cons] at this
        omega]
      rw [Option.map_map, List.length_cons]
      congr 3
      refine Option.map_congr fun m _ => ?_
      simp only [Function.comp_apply]
      omega
    · have hone : useFirings left 1 = some (some (ks.length + 1)) := by
        rw [hl, useFirings, if_pos (by simp)]
        simp
      rw [hpass _ hjt hone, (hrec _).2 ht rfl]

end


/-! ### Chains -/

section
variable {l : Lane} {p : Label} {o t : Int}

theorem chain_prefix {a b : List Int} : ∀ {r : Int}, Spec.chain l p o r (a ++ b) → Spec.chain l p o r a := by
  induction a with
  | nil => intro _ _; trivial
  | cons k a ih => intro r h; exact ⟨h.1, ih h.2⟩

/-- A search has one outcome. -/
theorem search_unique (h : l.rateOk) {r j k : Int} (hj : Spec.search l p o r j) (hk : Spec.search l p o r k) : j = k := by
  obtain ⟨hj1, hj2, hj3⟩ := (search_iff h r j).mp hj
  obtain ⟨hk1, hk2, hk3⟩ := (search_iff h r k).mp hk
  rcases lt_trichotomy j k with hlt | heq | hgt
  · exact absurd (hj2.symm.trans (hk3 j hlt hj1)) (by decide)
  · exact heq
  · exact absurd (hk2.symm.trans (hj3 k hgt hk1)) (by decide)

theorem chain_unique (h : l.rateOk) {a : List Int} : ∀ {b : List Int} {r : Int}, a.length = b.length → Spec.chain l p o r a → Spec.chain l p o r b → a = b := by
  induction a with
  | nil => intro b r hlen _ _; exact (List.length_eq_zero_iff.mp hlen.symm).symm
  | cons j a ih =>
    intro b r hlen ha hb
    match b with
    | [] => cases hlen
    | k :: b =>
      obtain rfl := search_unique h ha.1 hb.1
      rw [ih (Nat.succ.inj hlen) ha.2 hb.2]

/-- The matches of a chain lie before its last. -/
theorem chain_lt (h : l.rateOk) {k : Int} (ks : List Int) : ∀ {r : Int}, Spec.chain l p o r (ks ++ [k]) → ∀ j ∈ ks, j < k := by
  induction ks with
  | nil => intro _ _ j hj; cases hj
  | cons i ks ih =>
    intro r hc j hj
    rcases List.mem_cons.mp hj with rfl | hj
    · have := chain_le h ks hc.2
      rw [Lane.firstIndex_after h] at this
      omega
    · exact ih hc.2 j hj

theorem place_lt_of_lt (h : l.rateOk) {j k : Int} (hjk : j < k) : Spec.place l j o < Spec.place l k o := by
  have hp : (225000 : Int) ≤ l.period := by exact_mod_cast h.period_ge
  rw [Spec.place, Spec.place]
  nlinarith

/-- A match whose forerunners lie before `t` lies within a day of `t` or of the start. -/
theorem chain_within_day (h : l.rateOk) {k : Int} (ks : List Int) : ∀ {r : Int}, Spec.chain l p o r (ks ++ [k]) → (∀ j ∈ ks, Spec.place l j o < t) →
    k < max (l.firstIndex (r - o)) (l.firstIndex (t - o)) + l.nDay := by
  induction ks with
  | nil =>
    intro r hc _
    have := search_within_day h hc.1
    omega
  | cons j ks ih =>
    intro r hc hbefore
    have hk := ih hc.2 fun i hi => hbefore i (List.mem_cons_of_mem _ hi)
    have hj := hbefore j List.mem_cons_self
    rw [← not_le, ← Lane.firstIndex_le_iff h] at hj
    rw [Lane.firstIndex_after h] at hk
    omega

end

/-! ### The series by its anchor -/

section
variable {s : State} {c : Cue} {left : Option Nat} {d t : Nat}

theorem seriesNext_absolute {pt : Nat} (h : c.anchor = .absolute pt) :
    s.seriesNext c left d t
      = ⟨c.current, match useFirings left (passedOver (d + c.interval) c.interval t) with
          | none => .done .none none
          | some left' =>
            if d + (passedOver (d + c.interval) c.interval t + 1) * c.interval < ptLimit then
              .done .none (some ⟨d + (passedOver (d + c.interval) c.interval t + 1) * c.interval, left', none⟩)
            else .done .none none⟩ := by
  rw [State.seriesNext, h] <;> rfl

theorem seriesNext_wild {i : Nat} {p : Label} {o : Int} (h : c.anchor = .label i p o) (hp : patternWild p = true) :
    s.seriesNext c left d t
      = match (s.lane i).wildSeries p o t ((s.lane i).nDay + ((s.lane i).firstIndex (t - o) - (s.lane i).firstIndex (d + 1 - o)).toNat)
          ((s.lane i).firstIndex (d + 1 - o)) left with
        | none => ⟨c.current, .done .none none⟩
        | some (k, none) => ⟨some ((s.lane i).countAt k), .done .none none⟩
        | some (k, some left') =>
          ⟨some ((s.lane i).countAt k),
            ((s.lane i).checkPt ((s.lane i).boundaryPt k + o)).bind fun due => .done .none (some ⟨due, left', some ((s.lane i).countAt k)⟩)⟩ := by
  rw [State.seriesNext, h]
  exact if_pos hp

theorem seriesNext_label {i : Nat} {p : Label} {o : Int} (h : c.anchor = .label i p o) (hp : patternWild p = false) :
    let l := s.lane i
    let count := fun n : Nat => wrap (c.current.getD 0 + n * c.interval) l.nDay
    let first := l.nextOccurrence (count 1) o d
    let gap : Int := c.interval * l.period
    s.seriesNext c left d t
      = ⟨c.current, match useFirings left (passedOver first gap t) with
          | none => .done .none none
          | some left' =>
            (l.checkPt (first + passedOver first gap t * gap)).bind fun due =>
              .done .none (some ⟨due, left', some (count (passedOver first gap t + 1))⟩)⟩ := by
  rw [State.seriesNext, h]
  exact if_neg (by rw [hp]; decide)

theorem seriesNext_sample {i : Nat} {p : Int} (h : c.anchor = .sample i p) :
    let l := s.lane i
    let x := l.soundPart
    let first := c.current.getD 0 + c.interval
    let last := (t - l.sampleOrigin - 1) * (x.rate * x.pn) / x.quotDen
    let skip := if first ≤ last then ((last - first) / c.interval + 1).toNat else 0
    s.seriesNext c left d t
      = ⟨c.current, match useFirings left skip with
          | none => .done .none none
          | some left' =>
            if first + skip * c.interval < sampleLimit then
              (l.sampleToPt x (first + skip * c.interval)).bind fun due => .done .none (some ⟨due, left', some (first + skip * c.interval)⟩)
            else .done .none none⟩ := by
  rw [State.seriesNext, h] <;> rfl

/-- The sample positions before a PT (R18, R147). -/
theorem tick_lt_iff {l : Lane} {q : Sound} {p x : Int} (h : Spec.tick l q p x) :
    x < t ↔ p ≤ (t - l.sampleOrigin - 1) * (q.rate * q.pn) / q.quotDen := by
  rw [Int.le_ediv_iff_mul_le q.quotDen_pos, ← ceilDiv_le_iff _ _ q.ratePn_pos, ← (Lane.tick_spec h).1]
  omega

/-- The sample positions passed over. -/
theorem skip_eq {first last gap : Int} {n : Nat} (hlow : n = 0 ∨ 0 < gap ∧ first + (n - 1) * gap ≤ last) (hhigh : last < first + n * gap) :
    (if first ≤ last then ((last - first) / gap + 1).toNat else 0) = n := by
  rcases Nat.eq_zero_or_pos n with rfl | hn
  · exact if_neg (by simpa using hhigh)
  · obtain ⟨hgap, hlow⟩ := hlow.resolve_left (by omega)
    have hone : (1 : Int) ≤ n := by exact_mod_cast hn
    rw [if_pos (by nlinarith), ediv_unique (k := n - 1) (by linarith) (by linarith)]
    omega

theorem le_skip {first last gap : Int} {n : Nat} (hgap : 0 < gap) (hn : 1 ≤ n) (hlow : first + (n - 1) * gap ≤ last) :
    n ≤ (if first ≤ last then ((last - first) / gap + 1).toNat else 0) := by
  have hone : (1 : Int) ≤ n := by exact_mod_cast hn
  have hdiv : (n : Int) - 1 ≤ (last - first) / gap := by rw [Int.le_ediv_iff_mul_le hgap]; linarith
  rw [if_pos (by nlinarith)]
  omega

/-- A chain of matches is the one that the dues of a wildcard series stand at. -/
theorem dueAfter_wild {i : Nat} {p : Label} {o : Int} (h : c.anchor = .label i p o) (hp : patternWild p = true) {j : Nat} {x : Int} {cur : Option Int} :
    Spec.dueAfter s c d j x cur ↔ (s.lane i).rateOk ∧ ∃ (ks : List Int) (k : Int), ks.length + 1 = j ∧ Spec.chain (s.lane i) p o (d + 1) (ks ++ [k])
      ∧ x = Spec.place (s.lane i) k o ∧ cur = some (Spec.count (s.lane i) k : Int) := by
  rw [Spec.dueAfter, h]
  have hany := patternWild_iff.mp hp
  exact ⟨fun ⟨hr, hw, _⟩ => ⟨hr, hw hany⟩, fun ⟨hr, hw⟩ => ⟨hr, fun _ => hw, fun hno => absurd hany hno⟩⟩

theorem dueAfter_label {i : Nat} {p : Label} {o : Int} (h : c.anchor = .label i p o) (hp : patternWild p = false) {j : Nat} {x : Int} {cur : Option Int} :
    Spec.dueAfter s c d j x cur ↔ (s.lane i).rateOk ∧ ∃ (c₀ : Nat) (x₁ : Int), c.current = some (c₀ : Int)
      ∧ Spec.next (s.lane i) ((c₀ + c.interval) % (s.lane i).nDay) o d x₁ ∧ x = x₁ + (j - 1) * (c.interval * (s.lane i).period)
      ∧ cur = some (((c₀ + j * c.interval) % (s.lane i).nDay : Nat) : Int) := by
  rw [Spec.dueAfter, h]
  have hany : ¬ Spec.any p := by rw [← patternWild_iff, hp]; decide
  exact ⟨fun ⟨hr, _, hw⟩ => ⟨hr, hw hany⟩, fun ⟨hr, hw⟩ => ⟨hr, fun hyes => absurd hyes hany, fun _ => hw⟩⟩

/-- The current anchor that an ending series holds: a wildcard's last match (R142; log entry 26). -/
def Cue.lastAnchor (c : Cue) (cur : Option Int) : Option Int := if c.anchor.wildcard then cur else c.current

theorem wrap_natCast (a n : Nat) : wrap (a : Int) n = a % n := by
  rw [wrap, ← Int.natCast_emod, Int.toNat_natCast]

/-- A series whose remaining dues all lie before `t` ends (R147). -/
theorem seriesNext_ends {m : Nat} (hm : 1 ≤ m) (hpaced : Spec.paced s c) {y : Int} {cur : Option Int} (hdue : Spec.dueAfter s c d m y cur) (hy : y < t) :
    (s.seriesNext c (some m) d t).next = .done .none none ∧ (s.seriesNext c (some m) d t).last = c.lastAnchor cur := by
  have hwild : c.anchor.wildcard = false → c.lastAnchor cur = c.current := fun hw => if_neg (by rw [hw]; decide)
  cases ha : c.anchor with
  | absolute pt =>
    rw [Spec.paced, ha] at hpaced
    rw [Spec.dueAfter, ha] at hdue
    obtain ⟨rfl, -⟩ := hdue
    have hone : (1 : Int) ≤ m := by exact_mod_cast hm
    have hskip : m ≤ passedOver (d + c.interval) c.interval t :=
      le_passedOver (by exact_mod_cast hpaced) hm (by linarith)
    rw [seriesNext_absolute ha, useFirings_of_le hskip]
    exact ⟨rfl, (hwild (by rw [ha]; rfl)).symm⟩
  | label i p o =>
    cases hp : patternWild p with
    | true =>
      obtain ⟨hr, ks, k, hlen, hchain, rfl, rfl⟩ := (dueAfter_wild ha hp).mp hdue
      have hbefore : ∀ j ∈ ks, Spec.place (s.lane i) j o < t := fun j hj => (place_lt_of_lt hr (chain_lt hr ks hchain j hj)).trans hy
      have hday := chain_within_day hr ks hchain hbefore
      have hend := (wildSeries_chain hr ks hchain hbefore (fuel := (s.lane i).nDay
        + ((s.lane i).firstIndex (t - o) - (s.lane i).firstIndex (d + 1 - o)).toNat) (left := some m) (by omega)).2 hy (by rw [hlen])
      rw [seriesNext_wild ha hp, hend]
      exact ⟨rfl, by rw [Cue.lastAnchor, ha, Anchor.wildcard, hp]; rfl⟩
    | false =>
      rw [Spec.paced, ha] at hpaced
      have hgap := (hpaced.resolve_left (by rw [← patternWild_iff, hp]; decide)).1
      obtain ⟨hr, c₀, x₁, hcur, hnext, rfl, -⟩ := (dueAfter_label ha hp).mp hdue
      have hcount : wrap (c.current.getD 0 + (1 : Nat) * c.interval) (s.lane i).nDay = (c₀ + c.interval) % (s.lane i).nDay := by
        rw [hcur, Option.getD_some, ← wrap_natCast]; push_cast; ring_nf
      have hskip := le_passedOver (first := x₁) (gap := c.interval * (s.lane i).period) (t := t) (n := m)
        (by have := hr.period_ge; exact_mod_cast Nat.mul_pos hgap (by omega)) hm hy
      rw [seriesNext_label ha hp]
      dsimp only
      rw [hcount, Lane.nextOccurrence_of_next hr hnext, useFirings_of_le hskip]
      exact ⟨rfl, (hwild (by rw [ha]; exact hp)).symm⟩
  | sample i pos =>
    rw [Spec.paced, ha] at hpaced
    rw [Spec.dueAfter, ha] at hdue
    obtain ⟨q, p, hs, hcur, htick, -⟩ := hdue
    have hlast := (tick_lt_iff htick).mp hy
    rw [seriesNext_sample ha]
    dsimp only
    rw [Lane.soundPart, hs, hcur, Option.getD_some, Option.getD_some,
      useFirings_of_le (le_skip (by exact_mod_cast hpaced) hm (by linarith))]
    exact ⟨rfl, hcur.symm.trans (hwild (by rw [ha]; rfl)).symm⟩

end

end Sys2Proof.Machine
end

section
/-! Where a series of dues resumes after a firing (R147). -/

namespace Sys2Proof.Machine

/-! ### Where a series resumes -/

section
variable {l : Lane}

theorem Lane.checkPt_done {v : Int} (h0 : 0 ≤ v) (h1 : v < 2 ^ 64) : l.checkPt v = .done .none v.toNat :=
  if_pos ⟨h0, by rw [show (ptLimit : Int) = 2 ^ 64 from by decide]; exact h1⟩

theorem Lane.checkPt_stopped {v : Int} (h : 2 ^ 64 ≤ v) (hm : ¬ l.masks.has .range = true) : l.checkPt v = .stopped Cond.range.only .range :=
  (if_neg fun hc => by rw [show (ptLimit : Int) = 2 ^ 64 from by decide] at hc; omega).trans (if_neg hm)

/-- A sample position whose PT lies in PT's range, and one at which its conversion stops (R18). -/
theorem Lane.sampleToPt_tick {q : Sound} {p x : Int} (h : Spec.tick l q p x) :
    let whole := decide (p * (54000000 * q.pd) = (x - Spec.place l l.map.k0 0) * (q.rate * q.pn))
    (whole = true ∨ l.masks.has .inexact = true → 0 ≤ x → x < 2 ^ 64 → l.sampleToPt q p = .done (if whole then .none else Cond.inexact.only) x.toNat)
      ∧ (whole = false → ¬ l.masks.has .inexact = true → l.sampleToPt q p = .stopped Cond.inexact.only .inexact)
      ∧ (whole = true → 2 ^ 64 ≤ x → ¬ l.masks.has .range = true → l.sampleToPt q p = .stopped Cond.range.only .range) := by
  intro whole
  obtain ⟨hx, hwhole⟩ := Lane.tick_spec h
  have hplace : Spec.place l l.map.k0 0 = l.phase + l.map.k0 * l.period := by simp [Spec.place]
  have hpart : (decide ¬ p * q.quotDen % (q.rate * q.pn) = 0) = !whole := by
    rw [Bool.eq_iff_iff, decide_eq_true_eq, hwhole, Bool.not_eq_true', decide_eq_false_iff_not, hplace]
  have hconv : l.sampleToPt q p = (l.judge (!whole) .inexact x).bind l.checkPt := by
    rw [Lane.sampleToPt]
    simp only [exactly_judge, hx, hpart]
  rw [hconv]
  refine ⟨fun hgo h0 h1 => ?_, fun hw hm => ?_, fun hw hx hm => ?_⟩
  · cases hw : whole with
    | true => rw [Lane.judge, if_neg (by decide), Conv.none_bind, Lane.checkPt_done h0 h1]; rfl
    | false =>
      have hm := hgo.resolve_left (by rw [hw]; decide)
      rw [Lane.judge, if_pos (show (!false) = true from rfl), Lane.meet, if_pos hm, Conv.bind]
      simp only [Lane.checkPt_done h0 h1]
      rfl
  · rw [hw, Lane.judge, if_pos (show (!false) = true from rfl), Lane.meet, if_neg hm]; rfl
  · rw [hw, Lane.judge, if_neg (by decide), Conv.none_bind, Lane.checkPt_stopped hx hm]

end

section
variable {s : State} {c : Cue} {left : Option Nat} {d n : Nat} {x : Int} {cur : Option Int}

/-- What the series comes to, once its next due is known. -/
structure Resumed (s : State) (c : Cue) (left : Option Nat) (d n : Nat) (x : Int) (cur : Option Int) (r : Series) : Prop where
  class_ends : Spec.beyond c.anchor x cur → r.next = .done .none none ∧ r.last = c.current
  found : ¬ Spec.beyond c.anchor x cur → Spec.whole s c.anchor cur x = true ∨ Spec.masked s c.anchor .inexact → x < 2 ^ 64 →
    r.next = .done (if Spec.whole s c.anchor cur x then .none else Cond.inexact.only) (some ⟨x.toNat, left.map (· - n), cur⟩)
  stops : ¬ Spec.beyond c.anchor x cur →
    Spec.whole s c.anchor cur x = false ∧ ¬ Spec.masked s c.anchor .inexact
        ∨ Spec.whole s c.anchor cur x = true ∧ 2 ^ 64 ≤ x ∧ ¬ Spec.masked s c.anchor .range →
      (∃ m k, r.next = .stopped m k) ∧ r.last = c.lastAnchor cur

theorem masked_label {i : Nat} {p : Label} {o : Int} (h : c.anchor = .label i p o) (k : Cond) :
    Spec.masked s c.anchor k ↔ (s.lane i).masks.has k = true := by
  rw [h]; exact ⟨fun hm => hm i rfl, fun hm j hj => by cases hj; exact hm⟩

theorem masked_sample {i : Nat} {p : Int} (h : c.anchor = .sample i p) (k : Cond) :
    Spec.masked s c.anchor k ↔ (s.lane i).masks.has k = true := by
  rw [h]; exact ⟨fun hm => hm i rfl, fun hm j hj => by cases hj; exact hm⟩

theorem not_beyond_label {i : Nat} {p : Label} {o : Int} (h : c.anchor = .label i p o) : ¬ Spec.beyond c.anchor x cur := by
  rw [h]; exact id

/-- A LABEL series resumes at its due, or stops at it. -/
theorem Resumed.of_label {i : Nat} {p : Label} {o : Int} (h : c.anchor = .label i p o) (hx : 0 ≤ x) {r : Series} (hlast : r.last = c.lastAnchor cur)
    (hnext : r.next = ((s.lane i).checkPt x).bind fun due => .done .none (some ⟨due, left.map (· - n), cur⟩)) : Resumed s c left d n x cur r := by
  have hwhole : Spec.whole s c.anchor cur x = true := by rw [h]; rfl
  refine ⟨fun hb => absurd hb (not_beyond_label h), fun _ _ hx' => ?_, fun _ hstop => ⟨?_, hlast⟩⟩
  · rw [hnext, Lane.checkPt_done hx hx', Conv.none_bind, hwhole, if_pos rfl]
  · rcases hstop with ⟨hno, -⟩ | ⟨-, hfar, hm⟩
    · exact absurd (hwhole.symm.trans hno) (by decide)
    · rw [masked_label h] at hm
      rw [hnext, Lane.checkPt_stopped hfar hm]
      exact ⟨_, _, rfl⟩

/-- A series goes on at the first due at or after PT, the dues before it passed over (R147). -/
theorem seriesNext_resumes (hleft : ∀ m ∈ left, n < m) (h : Spec.resumes s c d n x cur) :
    Resumed s c left d n x cur (s.seriesNext c left d s.tb.pt) := by
  obtain ⟨hbefore, hdue, hpt⟩ := h
  have hx : 0 ≤ x := le_trans (Int.natCast_nonneg _) hpt
  have hused := useFirings_of_lt hleft
  cases ha : c.anchor with
  | absolute pt =>
    rw [Spec.dueAfter, ha] at hdue
    obtain ⟨rfl, rfl⟩ := hdue
    have hskip : passedOver (d + c.interval) c.interval s.tb.pt = n := by
      refine passedOver_eq (hbefore.imp id fun ⟨hpaced, y, z, hy, hlt⟩ => ?_) (by push_cast at hpt; linarith)
      rw [Spec.paced, ha] at hpaced
      rw [Spec.dueAfter, ha] at hy
      obtain ⟨rfl, -⟩ := hy
      exact ⟨by exact_mod_cast hpaced, by linarith⟩
    have hpos : (((d + (n + 1) * c.interval : Nat) : Int)) = d + ((n + 1 : Nat) : Int) * c.interval := by push_cast; ring
    have hto : ((d : Int) + ((n + 1 : Nat) : Int) * c.interval).toNat = d + (n + 1) * c.interval := by rw [← hpos, Int.toNat_natCast]
    have hwhole : Spec.whole s c.anchor none (d + ((n + 1 : Nat) : Int) * c.interval) = true := by rw [ha]; rfl
    rw [seriesNext_absolute ha, hskip, hused]
    refine ⟨fun hb => ?_, fun hb _ _ => ?_, fun hb hstop => ?_⟩
    · rw [ha, Spec.beyond] at hb
      exact ⟨if_neg (by rw [ptLimit]; omega), rfl⟩
    · rw [ha, Spec.beyond] at hb
      rw [hwhole, hto]
      exact if_pos (by rw [ptLimit]; omega)
    · rw [ha, Spec.beyond] at hb
      rcases hstop with ⟨hno, -⟩ | ⟨-, hfar, -⟩
      · exact absurd (hwhole.symm.trans hno) (by decide)
      · exact absurd hfar hb
  | label i p o =>
    cases hp : patternWild p with
    | true =>
      obtain ⟨hr, ks, k, hlen, hchain, rfl, rfl⟩ := (dueAfter_wild ha hp).mp hdue
      have hlen : ks.length = n := Nat.succ.inj hlen
      have hearlier : ∀ j ∈ ks, Spec.place (s.lane i) j o < s.tb.pt := by
        rcases hbefore with rfl | ⟨-, y, z, hy, hlt⟩
        · rw [List.length_eq_zero_iff.mp hlen]; intro j hj; cases hj
        · obtain ⟨-, ks', k', hlen', hchain', rfl, -⟩ := (dueAfter_wild ha hp).mp hy
          obtain rfl : ks = ks' ++ [k'] := chain_unique hr (by rw [hlen, List.length_append]; exact hlen'.symm) (chain_prefix hchain) hchain'
          intro j hj
          rcases List.mem_append.mp hj with hj | hj
          · exact (place_lt_of_lt hr (chain_lt hr ks' hchain' j hj)).trans hlt
          · rw [List.mem_singleton.mp hj]; exact hlt
      have hday := chain_within_day hr ks hchain hearlier
      have hseries := (wildSeries_chain hr ks hchain hearlier (fuel := (s.lane i).nDay
        + ((s.lane i).firstIndex (s.tb.pt - o) - (s.lane i).firstIndex (d + 1 - o)).toNat) (left := left) (by omega)).1 hpt (by rw [hlen]; exact hleft)
      rw [hlen] at hseries
      refine Resumed.of_label ha hx ?_ ?_ <;> rw [seriesNext_wild ha hp, hseries]
      · rw [Cue.lastAnchor, ha, Anchor.wildcard, hp]; rfl
      · rfl
    | false =>
      obtain ⟨hr, c₀, x₁, hcur, hnext, hxeq, hcureq⟩ := (dueAfter_label ha hp).mp hdue
      have hcount : ∀ j : Nat, wrap (c.current.getD 0 + j * c.interval) (s.lane i).nDay = (c₀ + j * c.interval) % (s.lane i).nDay := fun j => by
        rw [hcur, Option.getD_some, ← wrap_natCast]; push_cast; ring_nf
      have hskip : passedOver x₁ (c.interval * (s.lane i).period) s.tb.pt = n := by
        refine passedOver_eq (hbefore.imp id fun ⟨hpaced, y, z, hy, hlt⟩ => ?_) (by rw [hxeq] at hpt; push_cast at hpt; linarith)
        rw [Spec.paced, ha] at hpaced
        have hgap := (hpaced.resolve_left (by rw [← patternWild_iff, hp]; decide)).1
        obtain ⟨-, c₀', x₁', hcur', hnext', rfl, -⟩ := (dueAfter_label ha hp).mp hy
        obtain rfl : c₀ = c₀' := by rw [hcur] at hcur'; exact_mod_cast Option.some.inj hcur'
        obtain rfl : x₁ = x₁' := (Lane.nextOccurrence_of_next hr hnext).symm.trans (Lane.nextOccurrence_of_next hr hnext')
        exact ⟨by have := hr.period_ge; exact_mod_cast Nat.mul_pos hgap (by omega), hlt⟩
      have hfirst : (s.lane i).nextOccurrence (wrap (c.current.getD 0 + (1 : Nat) * c.interval) (s.lane i).nDay) o d = x₁ := by
        rw [hcount 1, one_mul, Lane.nextOccurrence_of_next hr hnext]
      have hdueeq : x₁ + (n : Int) * (c.interval * (s.lane i).period) = x := by rw [hxeq]; push_cast; ring
      refine Resumed.of_label ha hx ?_ ?_ <;> rw [seriesNext_label ha hp] <;> dsimp only
      · exact (if_neg (by rw [ha, Anchor.wildcard, hp]; decide)).symm
      · rw [hfirst, hskip, hused, hdueeq, hcount, hcureq]
  | sample i pos =>
    rw [Spec.dueAfter, ha] at hdue
    obtain ⟨q, p, hs, hcur, htick, hcureq⟩ := hdue
    have hlastAnchor : c.lastAnchor cur = c.current := if_neg (by rw [ha]; exact Bool.false_ne_true)
    have hskip : (if p + c.interval ≤ (s.tb.pt - (s.lane i).sampleOrigin - 1) * (q.rate * q.pn) / q.quotDen then
        (((s.tb.pt - (s.lane i).sampleOrigin - 1) * (q.rate * q.pn) / q.quotDen - (p + c.interval)) / c.interval + 1).toNat else 0) = n := by
      refine skip_eq (hbefore.imp id fun ⟨hpaced, y, z, hy, hlt⟩ => ?_) ?_
      · have := mt (tick_lt_iff htick).mpr (not_lt.mpr hpt)
        push_cast at this
        linarith
      · rw [Spec.paced, ha] at hpaced
        rw [Spec.dueAfter, ha] at hy
        obtain ⟨q', p', hs', hcur', htick', -⟩ := hy
        obtain rfl : q = q' := by rw [hs] at hs'; exact Option.some.inj hs'
        obtain rfl : p = p' := by rw [hcur] at hcur'; exact Option.some.inj hcur'
        have := (tick_lt_iff htick').mp hlt
        exact ⟨by exact_mod_cast hpaced, by linarith⟩
    have hposition : p + c.interval + (n : Int) * c.interval = p + ((n + 1 : Nat) : Int) * c.interval := by push_cast; ring
    rw [seriesNext_sample ha, Lane.soundPart, hs, hcur, Option.getD_some, Option.getD_some, hskip, hused, hposition, ← hcur]
    have hwhole : Spec.whole s c.anchor cur x
        = decide ((p + ((n + 1 : Nat) : Int) * c.interval) * (54000000 * q.pd)
            = (x - Spec.place (s.lane i) (s.lane i).map.k0 0) * (q.rate * q.pn)) := by
      rw [ha, hcureq]
      simp only [Spec.whole, hs, Option.all_some]
    obtain ⟨hdone, hinexact, hrange⟩ := Lane.sampleToPt_tick htick
    rw [← hwhole] at hdone hinexact hrange
    have hclass : Spec.beyond c.anchor x cur ↔ ¬ p + ((n + 1 : Nat) : Int) * c.interval < sampleLimit := by
      rw [ha, Spec.beyond, hcureq, sampleLimit, not_lt]
      exact ⟨fun ⟨p', hp', hle⟩ => by cases hp'; exact hle, fun hle => ⟨_, rfl, hle⟩⟩
    refine ⟨fun hb => ⟨if_neg (hclass.mp hb), rfl⟩, fun hb hgo hx' => ?_, fun hb hstop => ⟨?_, hlastAnchor.symm⟩⟩
    · dsimp only
      rw [if_pos (not_not.mp (mt hclass.mpr hb)), hdone (hgo.imp id (masked_sample ha _).mp) hx hx', hcureq]
      cases hw : Spec.whole s c.anchor (some (p + ((n + 1 : Nat) : Int) * c.interval)) x <;> rfl
    · dsimp only
      rw [if_pos (not_not.mp (mt hclass.mpr hb))]
      rcases hstop with ⟨hno, hm⟩ | ⟨hyes, hfar, hm⟩
      · rw [hinexact hno (mt (masked_sample ha _).mpr hm)]; exact ⟨_, _, rfl⟩
      · rw [hrange hyes hfar (mt (masked_sample ha _).mpr hm)]; exact ⟨_, _, rfl⟩

end

end Sys2Proof.Machine
end

section
/-! A firing in the words of the statements, and CUE_DUE (R145 to R148). -/

namespace Sys2Proof.Machine

/-! ### States that differ in sticky flags alone -/

/-- The Timebase is the same, and every lane but for its sticky flags. -/
def State.Alike (s t : State) : Prop := t.tb = s.tb ∧ ∀ i, t.lane i = { s.lane i with sticky := (t.lane i).sticky }

section
variable {s t u : State} {c : Cue} {d x : Int} {j n : Nat} {cur : Option Int}

theorem Noted.alike (h : Noted s u) : s.Alike u := ⟨h.keeps.2.2.2.2.1, h.lane⟩

theorem State.Alike.trans (h : s.Alike t) (k : t.Alike u) : s.Alike u := ⟨k.1.trans h.1, fun i => by rw [k.2 i, h.2 i]⟩

/-- A lane is the same but for its sticky flags, its latched record and its next boundary, which have no part in any due. -/
def Lane.Same (l l' : Lane) : Prop := l' = { l with sticky := l'.sticky, latched := l'.latched, next := l'.next }

/-- PT and the lane of an anchor are the same, as far as the anchor's dues are found from them. -/
def State.Near (a : Anchor) (s t : State) : Prop := t.tb.pt = s.tb.pt ∧ ∀ i, a.lane? = some i → (s.lane i).Same (t.lane i)

theorem State.Alike.near (h : s.Alike t) (a : Anchor) : s.Near a t := by
  refine ⟨by rw [h.1], fun i _ => ?_⟩
  rw [Lane.Same, h.2 i]

theorem chain_same {l l' : Lane} (h : l.Same l') (p : Label) (o : Int) (ks : List Int) :
    ∀ r : Int, Spec.chain l' p o r ks ↔ Spec.chain l p o r ks := by
  rw [h]
  induction ks with
  | nil => exact fun _ => Iff.rfl
  | cons j ks ih => exact fun r => and_congr Iff.rfl (ih _)

theorem dueAfter_near (h : s.Near c.anchor t) : Spec.dueAfter t c d j x cur ↔ Spec.dueAfter s c d j x cur := by
  have hlane := h.2
  unfold Spec.dueAfter
  cases ha : c.anchor with
  | absolute pt => exact Iff.rfl
  | label i p o =>
    have hsame := hlane i (by rw [ha]; rfl)
    have hchain := chain_same hsame p o
    dsimp only
    simp only [hchain]
    rw [hsame]
    exact Iff.rfl
  | sample i p =>
    dsimp only
    rw [hlane i (by rw [ha]; rfl)]
    exact Iff.rfl

theorem paced_near (h : s.Near c.anchor t) : Spec.paced t c ↔ Spec.paced s c := by
  have hlane := h.2
  unfold Spec.paced
  cases ha : c.anchor with
  | absolute pt => exact Iff.rfl
  | label i p o => dsimp only; rw [hlane i (by rw [ha]; rfl)]; exact Iff.rfl
  | sample i p => exact Iff.rfl

theorem resumes_near (h : s.Near c.anchor t) : Spec.resumes t c d n x cur ↔ Spec.resumes s c d n x cur := by
  unfold Spec.resumes
  simp only [dueAfter_near h, paced_near h, h.1]

theorem whole_near {a : Anchor} (h : s.Near a t) (cur : Option Int) (x : Int) : Spec.whole t a cur x = Spec.whole s a cur x := by
  have hlane := h.2
  unfold Spec.whole
  cases a with
  | absolute pt => rfl
  | label i p o => rfl
  | sample i p =>
    cases cur with
    | none => rfl
    | some p => dsimp only; rw [hlane i rfl]; rfl

theorem masked_near {a : Anchor} (h : s.Near a t) (k : Cond) : Spec.masked t a k ↔ Spec.masked s a k := by
  unfold Spec.masked
  refine forall_congr' fun i => imp_congr_right fun hi => ?_
  rw [h.2 i hi]

theorem dueAfter_alike (h : s.Alike t) : Spec.dueAfter t c d j x cur ↔ Spec.dueAfter s c d j x cur := dueAfter_near (h.near _)

theorem paced_alike (h : s.Alike t) : Spec.paced t c ↔ Spec.paced s c := paced_near (h.near _)

theorem resumes_alike (h : s.Alike t) : Spec.resumes t c d n x cur ↔ Spec.resumes s c d n x cur := resumes_near (h.near _)

theorem whole_alike (h : s.Alike t) (a : Anchor) (cur : Option Int) (x : Int) : Spec.whole t a cur x = Spec.whole s a cur x := whole_near (h.near a) cur x

theorem masked_alike (h : s.Alike t) (a : Anchor) (k : Cond) : Spec.masked t a k ↔ Spec.masked s a k := masked_near (h.near a) k

end

/-! ### What a firing notes -/

section
variable {s : State}

theorem lane_stick_same {i : Nat} (hi : i < 16) (m : Conds) (s : State) : (stick i m s).lane i = { s.lane i with sticky := (s.lane i).sticky.or m } := by
  rw [stick]
  simp only [raiseIf]
  split_ifs
  · exact State.lane_setLane_same hi ..
  · exact State.lane_setLane_same hi ..

theorem lane_stickOpt_ne {i : Option Nat} {j : Nat} (h : i ≠ some j) (m : Conds) (s : State) : (stickOpt i m s).lane j = s.lane j := by
  cases i with
  | none => rfl
  | some i =>
    rw [stickOpt, stick]
    simp only [raiseIf]
    have hne : j ≠ i := fun hj => h (by rw [hj])
    split_ifs <;> exact State.lane_setLane_ne hne ..

theorem flag_stickOpt {i : Option Nat} {f : Flag} (hf : f ≠ .laneException) (m : Conds) (s : State) : (stickOpt i m s).flag f = s.flag f := by
  cases i with
  | none => rfl
  | some i =>
    rw [stickOpt, stick]
    simp only [raiseIf]
    split_ifs
    · rw [flag_raise, if_neg hf]; rfl
    · rfl

end

/-! ### The lines of a firing -/

section
variable {s : State} {slot : Nat} {c : Cue}

theorem onLine_self (s : State) (j : Nat) : s.setLine j (s.line j) = s := by
  rw [State.setLine, State.line, Bank.put_get]

theorem releaseLine_onLine (slot : Nat) (line : Option Nat) (s : State) : releaseLine slot line s = Spec.onLine s line fun l => Spec.idled l slot := by
  cases line with
  | none => rfl
  | some j =>
    unfold releaseLine Spec.onLine Spec.idled
    dsimp only
    split_ifs
    · rfl
    · exact (onLine_self s j).symm

theorem driveLine_onLine (slot : Nat) (c : Cue) (s : State) : driveLine slot c s = Spec.onLine s c.line fun l => Spec.driven l slot c.action := by
  unfold driveLine Spec.onLine
  cases c.line with
  | none => rfl
  | some j =>
    dsimp only
    split_ifs with hnone
    · rw [hnone]; exact (onLine_self s j).symm
    · cases hact : c.action <;> rfl

theorem restaged_eq (c : Cue) : Spec.restaged c = c.restaged := rfl

/-- The lines after a firing, in the words of the statements (R146, R148). -/
theorem firedLines_eq (s : State) (slot : Nat) (c : Cue) :
    s.firedLines slot c
      = (Spec.onLine (if c.state = .pulsing ∧ c.restaged.action ≠ .pulse then Spec.onLine s c.line fun l => Spec.idled l slot else s) c.line
          fun l => Spec.driven l slot c.restaged.action).lines := by
  rw [State.firedLines, driveLine_onLine, releaseLine_onLine, c.restaged_line.1]

theorem placeDue_eq (f : Nat → Nat) (slot due : Nat) (l : List Nat) :
    placeDue f slot due l = (l.takeWhile fun x => decide (f x ≤ due)) ++ slot :: l.dropWhile fun x => decide (f x ≤ due) := by
  induction l with
  | nil => rfl
  | cons x l ih =>
    rw [placeDue]
    split_ifs with h
    · rw [ih, List.takeWhile_cons_of_pos (by simpa using h), List.dropWhile_cons_of_pos (by simpa using h)]; rfl
    · rw [List.takeWhile_cons_of_neg (by simpa using h), List.dropWhile_cons_of_neg (by simpa using h)]; rfl

end

/-! ### The firing of a slot -/

section
variable {s : State} {slot : Nat} {c : Cue} {d : Nat}

theorem cue_scheduled {u : State} {b : Bank (Option Cue) 64} {y : Option Cue} {dues : List Nat} {lines : Bank Line 8} (h : slot < 64) :
    (u.scheduled (b.put slot y) dues lines).cue slot = y := Bank.get_put_same _ h _ _

theorem not_mem_filter (l : List Nat) (slot : Nat) : slot ∉ l.filter (· ≠ slot) := by simp

theorem mem_placeDue (f : Nat → Nat) (slot due : Nat) (l : List Nat) : slot ∈ placeDue f slot due l :=
  (placeDue_perm f slot due l).mem_iff.mpr List.mem_cons_self

theorem alike_scheduled {s u : State} (h : Noted s u) (b : Bank (Option Cue) 64) (dues : List Nat) (lines : Bank Line 8) :
    s.Alike (u.scheduled b dues lines) := h.alike

/-- A firing is what it notes and a write of the schedule. -/
theorem fireCue_noted (slot : Nat) (s : State) : ∃ u b dues lines, Noted s u ∧ fireCue slot s = u.scheduled b dues lines := by
  cases hc : s.cue slot with
  | none => rw [fireCue, hc]; exact ⟨s, s.cues, s.dues, s.lines, Noted.refl, rfl⟩
  | some c =>
    cases hf : c.fired.further with
    | false => exact ⟨_, _, _, _, Noted.refl.raiseIf _ _, fireCue_last hc hf⟩
    | true =>
      obtain ⟨hfound, hended, hstopped⟩ := fireCue_more hc hf
      cases hn : (s.seriesAfter c).next with
      | stopped m k => exact ⟨_, _, _, _, (firedNoted_noted s c).raise _, hstopped m k hn⟩
      | done m n =>
        cases n with
        | none => exact ⟨_, _, _, _, firedNoted_noted s c, hended m hn⟩
        | some n => exact ⟨_, _, _, _, firedNoted_noted s c, hfound m n hn⟩

/-- A firing leaves the Timebase as it is, and every lane but for its sticky flags. -/
theorem fireCue_alike (slot : Nat) (s : State) : s.Alike (fireCue slot s) := by
  obtain ⟨u, b, dues, lines, hu, ht⟩ := fireCue_noted slot s
  rw [ht]
  exact alike_scheduled hu b dues lines

/-- A cue once fired: its anchor, its current anchor and its firings left (R146). -/
theorem Cue.fired_keeps (c : Cue) : c.fired.anchor = c.anchor ∧ c.fired.current = c.current ∧ c.fired.left = c.left.map (· - 1) := by
  refine ⟨c.restaged_line.2.2.2.1, ?_, congrArg (Option.map (· - 1)) c.restaged_line.2.2.2.2.1⟩
  unfold Cue.fired Cue.restaged
  cases c.staged <;> rfl

/-- After its firing a cue has what `Spec.fired` says of it (R146, R147). -/
theorem fired_fireCue (hc : s.cue slot = some c) (hd : c.due = some d) : Spec.fired (fireCue slot s) slot c d := by
  have hlt := State.cue_lt hc
  have halike := fireCue_alike slot s
  obtain ⟨hanchor, hcur, hleft⟩ := c.fired_keeps
  have hlast : ∀ cur, c.fired.lastAnchor cur = if c.anchor.wildcard then cur else c.current := fun cur => by rw [Cue.lastAnchor, hanchor, hcur]
  have hseries : s.seriesAfter c = s.seriesNext c.fired (c.left.map (· - 1)) d s.tb.pt := by rw [State.seriesAfter, hleft, hd]; rfl
  have hspent : ∀ {v} (cur : Option Int), v = ({ c.fired with current := cur } : Cue).spent
      → v = if (Spec.restaged c).action = Action.pulse then
          some { Spec.restaged c with remaining := if (Spec.restaged c).action = Action.pulse then (Spec.restaged c).width else 0, due := none
                                      state := .pulsing, left := some 0, current := cur }
        else none := fun _ hv => hv
  refine ⟨fun hone => ?_, fun m y cur hm h2 hpaced hdue hy => ?_, fun n x cur hn hres => ?_⟩
  · have hno : c.fired.further = false := by rw [Cue.further, hleft, hone]; rfl
    rw [fireCue_last hc hno]
    exact ⟨(cue_scheduled hlt).trans (hspent _ (by rw [← hcur])), not_mem_filter _ _⟩
  · have hmore : c.fired.further = true := by rw [Cue.further, hleft, hm]; simp; omega
    have hends := seriesNext_ends (c := c.fired) (t := s.tb.pt) (by omega) ((paced_alike halike).mp hpaced) ((dueAfter_alike halike).mp hdue) (halike.1 ▸ hy)
    rw [show some (m - 1) = c.left.map (· - 1) by rw [hm]; rfl, ← hseries] at hends
    rw [(fireCue_more hc hmore).2.1 _ hends.1]
    exact ⟨(cue_scheduled hlt).trans (hspent _ (by rw [hends.2, hlast])), not_mem_filter _ _⟩
  · have hmore : c.fired.further = true := by
      rw [Cue.further, hleft, decide_eq_true_eq]
      intro hzero
      obtain ⟨m, hm, hm0⟩ := Option.map_eq_some_iff.mp hzero
      have := hn m hm
      omega
    have hres : Resumed s c.fired _ d n x cur _ := seriesNext_resumes (fun m hm => by
      obtain ⟨m', hm', rfl⟩ := Option.mem_map.mp hm
      have := hn m' hm'
      change n < m' - 1
      omega) ((resumes_alike halike).mp hres)
    rw [← hseries] at hres
    obtain ⟨hclass, hfound, hstops⟩ := hres
    rw [hanchor] at hclass hfound hstops
    obtain ⟨efound, eended, estopped⟩ := fireCue_more hc hmore
    rw [whole_alike halike, masked_alike halike, masked_alike halike]
    refine ⟨fun hb => ?_, fun hb hgo hx => ?_, fun hb hstop => ?_⟩
    · obtain ⟨hnext, hl⟩ := hclass hb
      rw [eended _ hnext]
      exact ⟨(cue_scheduled hlt).trans (hspent _ (by rw [hl, hcur])), not_mem_filter _ _⟩
    · have hnext := hfound hb hgo hx
      rw [efound _ _ hnext]
      refine ⟨(cue_scheduled hlt).trans ?_, mem_placeDue _ _ _ _, fun i hi hlane hpart => ?_⟩
      · have hused : (c.left.map (· - 1)).map (· - n) = c.left.map (· - (n + 1)) := by
          rw [Option.map_map]
          refine Option.map_congr fun m _ => ?_
          simp only [Function.comp_apply]
          omega
        rw [hused]
        rfl
      · change ((s.firedNoted c).lane i).sticky.inexact = true
        rw [State.firedNoted, hlane, hnext, stickOpt, lane_stick_same hi]
        simp [hpart, Conv.met, Conds.or, Cond.only]
    · obtain ⟨⟨m, k, hnext⟩, hl⟩ := hstops hb hstop
      rw [estopped _ _ hnext]
      refine ⟨(cue_scheduled hlt).trans (hspent _ (by rw [hl, hlast])), not_mem_filter _ _, ?_⟩
      change ((raise .cueDropped (s.firedNoted c)).flag .cueDropped).set = true
      rw [flag_raise, if_pos rfl]

/-! ### The frame of a firing -/

/-- A firing in the words of the statements, from the write that it is: a slot, its place in the due list and the lines, after what is noted. -/
theorem fires_of_scheduled (hlt : slot < 64) {t u : State} {y : Option Cue} {dues : List Nat}
    (ht : t = u.scheduled (s.cues.put slot y) dues (s.firedLines slot c)) (hfired : Spec.fired t slot c d) (hu : Noted s u)
    (hdues : dues = match y.bind Cue.due with
      | some x => placeDue s.dueOf slot x (s.dues.filter (· ≠ slot))
      | none => s.dues.filter (· ≠ slot))
    (hlane : ∀ i < 16, c.anchor.lane? ≠ some i → u.lane i = s.lane i)
    (hflag : ∀ f, f ≠ .cueDropped → f ≠ .laneException → u.flag f = (raiseIf c.flagOnFire .cueFired s).flag f)
    (hnone : c.left = some 1 ∨ c.anchor.lane? = none → u.lanes = s.lanes ∧ u.attn = (raiseIf c.flagOnFire .cueFired s).attn) :
    Spec.fires { s with dues := s.dues.filter (· ≠ slot) } t slot c d := by
  have hcue : t.cue slot = y := by rw [ht]; exact cue_scheduled hlt
  have hraise : (if c.flagOnFire then raise .cueFired { s with dues := s.dues.filter (· ≠ slot) } else { s with dues := s.dues.filter (· ≠ slot) })
      = { raiseIf c.flagOnFire .cueFired s with dues := s.dues.filter (· ≠ slot) } := by unfold raiseIf; split_ifs <;> rfl
  refine ⟨hfired, ?_, fun i hi => ⟨?_, fun hne => ?_⟩, fun f h1 h2 => ?_, fun h => ?_⟩
  · have hlines : s.firedLines slot c = State.firedLines { s with dues := s.dues.filter (· ≠ slot) } slot c := by
      rw [firedLines_eq, firedLines_eq]
      unfold Spec.onLine
      cases c.line with
      | none => split_ifs <;> rfl
      | some j => split_ifs <;> rfl
    rw [hcue, ht, hdues, hu.frame, hlines, firedLines_eq]
    cases y.bind Cue.due with
    | none => rfl
    | some x => dsimp only; rw [placeDue_eq]; rfl
  · rw [ht]; exact hu.lane i
  · rw [ht]; exact hlane i hi hne
  · rw [ht, hraise]; exact hflag f h1 h2
  · rw [ht, hraise]; exact hnone h

/-- An ABSOLUTE series meets no condition (R141). -/
theorem seriesAfter_absolute (h : c.anchor.lane? = none) : ∃ n, (s.seriesAfter c).next = .done .none n := by
  cases ha : c.anchor with
  | label i p o => rw [ha] at h; cases h
  | sample i p => rw [ha] at h; cases h
  | absolute pt =>
    rw [State.seriesAfter, seriesNext_absolute (c.fired_keeps.1.trans ha)]
    dsimp only
    split
    · exact ⟨_, rfl⟩
    · split_ifs <;> exact ⟨_, rfl⟩

/-- The firing of a cue with a due, in the words of the statements. -/
theorem fires_fireCue (hc : s.cue slot = some c) (hd : c.due = some d) :
    Spec.fires { s with dues := s.dues.filter (· ≠ slot) } (fireCue slot s) slot c d := by
  have hlt := State.cue_lt hc
  have hfired := fired_fireCue hc hd
  have hlane : ∀ i < 16, c.anchor.lane? ≠ some i → (s.firedNoted c).lane i = s.lane i := fun i _ hne => by
    rw [State.firedNoted, lane_stickOpt_ne hne, State.lane, raiseIf_lanes]; rfl
  have hflag : ∀ f, f ≠ .cueDropped → f ≠ .laneException → (s.firedNoted c).flag f = (raiseIf c.flagOnFire .cueFired s).flag f :=
    fun f _ hf => by rw [State.firedNoted, flag_stickOpt hf]
  have hnone : c.anchor.lane? = none → s.firedNoted c = raiseIf c.flagOnFire .cueFired s := fun h => by rw [State.firedNoted, h]; rfl
  cases hf : c.fired.further with
  | false =>
    refine fires_of_scheduled hlt (fireCue_last hc hf) hfired (Noted.refl.raiseIf _ _) ?_ (fun i _ _ => ?_) (fun f _ _ => rfl) fun _ => ⟨raiseIf_lanes .., rfl⟩
    · rw [Cue.spent]
      split_ifs <;> rfl
    · rw [State.lane, raiseIf_lanes]; rfl
  | true =>
    have hmore : c.left ≠ some 1 := fun hone => by
      rw [Cue.further, c.fired_keeps.2.2, hone] at hf; cases hf
    obtain ⟨efound, eended, estopped⟩ := fireCue_more hc hf
    have hend : ∀ cur, ((({ c.fired with current := cur } : Cue).spent).bind Cue.due) = none := fun cur => by
      rw [Cue.spent]; split_ifs <;> rfl
    cases hn : (s.seriesAfter c).next with
    | stopped m k =>
      refine fires_of_scheduled hlt (estopped m k hn) hfired ((firedNoted_noted s c).raise _) (by rw [hend]) hlane (fun f h1 h2 => ?_) fun h => ?_
      · rw [flag_raise, if_neg h1]; exact hflag f h1 h2
      · obtain ⟨n, hn'⟩ := seriesAfter_absolute (s := s) (h.resolve_left hmore)
        rw [hn] at hn'; cases hn'
    | done m n =>
      have hrest := fun h : c.left = some 1 ∨ c.anchor.lane? = none =>
        (⟨by rw [hnone (h.resolve_left hmore)]; exact raiseIf_lanes .., by rw [hnone (h.resolve_left hmore)]⟩ :
          (s.firedNoted c).lanes = s.lanes ∧ (s.firedNoted c).attn = (raiseIf c.flagOnFire .cueFired s).attn)
      cases n with
      | none => exact fires_of_scheduled hlt (eended m hn) hfired (firedNoted_noted s c) (by rw [hend]) hlane hflag hrest
      | some n => exact fires_of_scheduled hlt (efound m n hn) hfired (firedNoted_noted s c) rfl hlane hflag hrest

end

/-! ### CUE_DUE -/

/-- Settles O50: the event's guard, and the firing of the head. -/
theorem cuesFireAtTheirDues : Obligations.CuesFireAtTheirDues := by
  unfold Obligations.CuesFireAtTheirDues
  intro s h
  refine ⟨fun hidle => ?_, fun slot rest c d hdues hrest hlt hc hd => ⟨fun hpt => ?_, fun hpt hrun hst => ?_⟩⟩
  · rw [exec, execCueDue, event_idle]
    rcases hidle with hnil | hstall
    · simp [State.headDue, hnil]
    · have : s.stalled = true := by rw [← Bool.not_eq_false, stalled_eq_false_iff]; exact hstall
      simp [this]
  · have hdue : s.dueOf slot = d := by rw [State.dueOf, hc, Option.bind_some, hd]; rfl
    rw [exec, execCueDue, event_idle]
    simp [State.headDue, hdues, hdue, hpt]
  · have hdue : s.dueOf slot = d := by rw [State.dueOf, hc, Option.bind_some, hd]; rfl
    have hfilter : s.dues.filter (· ≠ slot) = rest := by
      rw [hdues, List.filter_cons_of_neg (by simp), List.filter_eq_self]
      exact fun j hj => decide_eq_true fun he => hrest (he ▸ hj)
    refine ⟨fireCue slot s, ?_, hfilter ▸ fires_fireCue hc hd⟩
    rw [exec, execCueDue, event_live h (by simp [State.headDue, hdues, hdue, hpt, (stalled_eq_false_iff s).mpr hrun]), hdues]
    rfl

end Sys2Proof.Machine
end

section
/-! The due of an anchor in the words of the statements, and CUE_ADD (R141 to R145 and R152). -/

namespace Sys2Proof.Machine

/-! ### What the operations on cues leave behind -/

/-- `t` comes from `s` with the Timebase as it was, every lane as it was but for sticky flags, and no sticky flag and no attention flag cleared. -/
structure State.Ahead (s t : State) : Prop where
  alike : s.Alike t
  sticky : ∀ i, (s.lane i).sticky.inexact = true → (t.lane i).sticky.inexact = true
  flag : ∀ f, (s.flag f).set = true → (t.flag f).set = true

namespace State.Ahead

variable {s t u : State}

theorem refl (s : State) : s.Ahead s := ⟨⟨rfl, fun _ => rfl⟩, fun _ h => h, fun _ h => h⟩

theorem trans (h : s.Ahead t) (k : t.Ahead u) : s.Ahead u :=
  ⟨h.alike.trans k.alike, fun i hi => k.sticky i (h.sticky i hi), fun f hf => k.flag f (h.flag f hf)⟩

theorem of_eq (htb : t.tb = s.tb) (hlanes : t.lanes = s.lanes) (hattn : t.attn = s.attn) : s.Ahead t := by
  have hlane : ∀ i, t.lane i = s.lane i := fun i => by rw [State.lane, hlanes]; rfl
  refine ⟨⟨htb, fun i => by rw [hlane]⟩, fun i hi => by rwa [hlane], fun f hf => ?_⟩
  rw [State.flag, State.flagNo, hattn]
  exact hf

theorem foldl {α : Type} {f : State → α → State} (h : ∀ (s : State) a, s.Ahead (f s a)) (l : List α) (s : State) : s.Ahead (l.foldl f s) := by
  induction l generalizing s with
  | nil => exact refl s
  | cons a l ih => exact (h s a).trans (ih _)

end State.Ahead

section
variable (s : State)

theorem raise_ahead (f : Flag) : s.Ahead (raise f s) := ⟨⟨rfl, fun _ => rfl⟩, fun _ h => h, fun _ h => raise_keeps_set _ h⟩

theorem raiseIf_ahead (b : Bool) (f : Flag) : s.Ahead (raiseIf b f s) := by
  cases b
  · exact State.Ahead.refl s
  · exact raise_ahead s f

theorem stick_ahead (i : Nat) (m : Conds) : s.Ahead (stick i m s) := by
  refine ⟨((Noted.refl (s := s)).stick i m).alike, fun j hj => ?_, fun f hf => ?_⟩
  · by_cases hij : i = j
    · subst hij
      rcases Nat.lt_or_ge i 16 with hi | hi
      · rw [lane_stick_same hi]; simp [Conds.or, hj]
      · have hout : (stick i m s).lane i = s.lane i := by
          rw [State.lane, Bank.get_out _ hi, State.lane, Bank.get_out _ hi]
        rwa [hout]
    · rwa [show (stick i m s).lane j = s.lane j from lane_stickOpt_ne (i := some i) (fun h => hij (Option.some.inj h)) m s]
  · rw [stick, raiseIf]
    split_ifs
    · exact raise_keeps_set _ hf
    · exact hf

theorem stickOpt_ahead (i : Option Nat) (m : Conds) : s.Ahead (stickOpt i m s) := by
  cases i with
  | none => exact State.Ahead.refl s
  | some i => exact stick_ahead s i m

variable {s} in
theorem Noted.ahead {u : State} (h : Noted s u) : s.Ahead u := by
  induction h with
  | refl => exact State.Ahead.refl s
  | raise f _ ih => exact ih.trans (raise_ahead _ f)
  | stick i m _ ih => exact ih.trans (stick_ahead _ i m)

theorem freeSlot_ahead (slot : Nat) : s.Ahead (freeSlot slot s) := by
  cases hc : s.cue slot with
  | none => rw [freeSlot, hc]; exact State.Ahead.refl s
  | some c => rw [freeSlot_scheduled hc]; exact State.Ahead.of_eq rfl rfl rfl

theorem reportGone_ahead (owner : Option Nat) (done : Bool) : s.Ahead (reportGone owner done s) := by
  cases owner with
  | none => exact State.Ahead.refl s
  | some n =>
    rw [reportGone, deviceCueGone]
    split
    · exact State.Ahead.refl s
    · exact State.Ahead.trans (t := s.setDevice _ _) (State.Ahead.of_eq rfl rfl rfl) (raiseIf_ahead _ _ _)

theorem dropCue_ahead (slot : Nat) : s.Ahead (dropCue slot s) := by
  unfold dropCue
  split
  · exact State.Ahead.refl s
  · exact (freeSlot_ahead s slot).trans ((raise_ahead _ _).trans (reportGone_ahead _ _ _))

theorem fireCue_ahead (slot : Nat) : s.Ahead (fireCue slot s) := by
  obtain ⟨u, b, dues, lines, hu, ht⟩ := fireCue_noted slot s
  rw [ht]
  exact hu.ahead.trans (State.Ahead.of_eq rfl rfl rfl)

theorem lateCue_ahead (slot : Nat) : s.Ahead (lateCue slot s) := by
  unfold lateCue
  split
  · exact State.Ahead.refl s
  · split_ifs
    · exact dropCue_ahead s slot
    · exact (raise_ahead s _).trans (fireCue_ahead _ slot)

theorem setDue_ahead (slot : Nat) (c : Cue) (due : Nat) : s.Ahead (setDue slot c due s) := by
  have hentered : s.Ahead (enterDues slot c due s) := State.Ahead.of_eq rfl rfl rfl
  unfold setDue
  dsimp only
  split_ifs
  · exact hentered.trans (lateCue_ahead _ slot)
  · exact hentered

theorem handleLate_ahead : s.Ahead (handleLate s) := State.Ahead.foldl (fun s slot => lateCue_ahead s slot) _ s

theorem recomputeCue_ahead (slot : Nat) : s.Ahead (recomputeCue slot s) := by
  unfold recomputeCue
  split
  · exact State.Ahead.refl s
  · next c _ =>
    have hleft : s.Ahead (leaveDues slot s) := State.Ahead.of_eq rfl rfl rfl
    dsimp only
    split
    · exact hleft.trans ((stickOpt_ahead _ _ _).trans (setDue_ahead _ _ _ _))
    · exact hleft.trans ((stickOpt_ahead _ _ _).trans (dropCue_ahead _ _))

theorem startAbsolute_ahead (slot : Nat) : s.Ahead (startAbsolute slot s) := by
  unfold startAbsolute
  split
  · exact State.Ahead.refl s
  · split
    · exact setDue_ahead _ _ _ _
    · exact State.Ahead.refl s

end

/-! ### The due of an anchor -/

section
variable {s : State} {l : Lane} {a : Anchor} {i r : Nat} {x : Int} {current cur : Option Int}

/-- A search stops at the first label that passes its test, where it reaches it. -/
theorem Lane.searchFrom_first {test : Label → Bool} {start k : Int} {fuel : Nat} (hge : start ≤ k) (hlt : k < start + fuel)
    (hk : test (l.labelAt k) = true) (hfirst : ∀ j, start ≤ j → j < k → test (l.labelAt j) = false) : l.searchFrom test fuel start = some k := by
  induction fuel generalizing start with
  | zero => simp only [Nat.cast_zero, add_zero] at hlt; omega
  | succ fuel ih =>
    rw [Lane.searchFrom]
    rcases hge.eq_or_lt with rfl | hlater
    · rw [hk]; rfl
    · rw [hfirst start le_rfl hlater, if_neg (by decide)]
      exact ih (by omega) (by push_cast at hlt; omega) fun j hj => hfirst j (by omega)

/-- The search of the model stops at the first match (R142). -/
theorem wildIndex_of_search (h : l.rateOk) {p : Label} {o ref k : Int} (hk : Spec.search l p o ref k) : l.wildIndex p o ref = some k := by
  have hday := search_within_day h hk
  obtain ⟨hge, hcov, hfirst⟩ := (search_iff h ref k).mp hk
  rw [Lane.wildIndex]
  generalize l.firstIndex (ref - o) = start at hge hday hfirst
  exact Lane.searchFrom_first hge hday hcov fun j hsj hj => hfirst j hj hsj

/-- The due of a lane's anchor, as a chain of judged conditions (R141, R142, R144, R155). -/
theorem dueAgainst_of_due (ha : a.lane? = some i) (hr : (s.lane i).rateOk) (h : Spec.due s a current r x cur) :
    s.dueAgainst a current r
      = ((s.lane i).judge (!Spec.whole s a current x) .inexact x).bind fun x =>
          ((s.lane i).judge (decide (x < 0 ∨ 2 ^ 64 ≤ x)) .range (Spec.clampPt x).toNat).bind fun t => .done .none ⟨t, cur⟩ := by
  cases a with
  | absolute pt => cases ha
  | label j p o =>
    obtain rfl : j = i := Option.some.inj ha
    have hwhole : Spec.whole s (.label j p o) current x = true := rfl
    rw [hwhole, Lane.judge, if_neg (by decide), Conv.none_bind, ← Lane.checkPt_judge, State.dueAgainst]
    dsimp only
    obtain ⟨hwild, hlabel⟩ := h
    cases hp : patternWild p with
    | true =>
      obtain ⟨k, hk, rfl, rfl⟩ := hwild (patternWild_iff.mp hp)
      rw [if_pos rfl, wildIndex_of_search hr hk]
      rfl
    | false =>
      obtain ⟨c, rfl, hnext, rfl⟩ := hlabel (by rw [← patternWild_iff, hp]; decide)
      rw [if_neg (by decide), Lane.nextPt, Option.getD_some, Int.toNat_natCast, Lane.nextOccurrence_of_next hr hnext]
  | sample j p =>
    obtain rfl : j = i := Option.some.inj ha
    obtain ⟨q, p', hs, rfl, htick, rfl⟩ := h
    obtain ⟨hx, hwhole⟩ := Lane.tick_spec htick
    have hplace : Spec.place (s.lane j) (s.lane j).map.k0 0 = (s.lane j).phase + (s.lane j).map.k0 * (s.lane j).period := by simp [Spec.place]
    have hpart : (decide ¬ p' * q.quotDen % (q.rate * q.pn) = 0) = !Spec.whole s (.sample j p) (some p') x := by
      simp only [Spec.whole, hs, Option.all_some]
      rw [Bool.eq_iff_iff, decide_eq_true_eq, hwhole, Bool.not_eq_true', decide_eq_false_iff_not, hplace]
    rw [State.dueAgainst, Lane.soundPart, hs, Option.getD_some, Option.getD_some, Lane.sampleToPt]
    simp only [exactly_judge, hx, hpart, Conv.bind_assoc, Lane.checkPt_judge]

end

/-! ### The first due of a cue -/

section
variable {s : State} {c : Cue} {i : Nat}

/-- The first due of a cue whose anchor has been brought in, or none where it is SUSPENDED (R144). -/
def State.dueFor (s : State) (c : Cue) : Conv (Cue × Option Nat) :=
  if !s.tb.set || c.anchor.lane?.map (fun i => (s.lane i).state) = some .waiting then .done .none (c, none)
  else
    (s.dueAgainst c.anchor c.current s.tb.pt).bind fun f =>
      if c.anchor.lane?.map (fun i => (s.lane i).state) = some .held ∨ c.anchor.lane?.map (fun i => (s.lane i).state) = some .releasing then
        .done .none ({ c with current := f.current }, none)
      else .done .none ({ c with current := f.current }, some f.due)

theorem firstDue_eq (s : State) (c : Cue) :
    s.firstDue c = (s.bringAnchor c.anchor).bind fun r => s.dueFor { c with anchor := r.1, current := r.2 } := rfl

/-- A judged part, its result put to use at once. -/
theorem judge_map {α β γ : Type} (l : Lane) (b : Bool) (k : Cond) (a : α) (f : α → β) (g : β → Conv γ) :
    ((l.judge b k a).bind fun a => g (f a)) = (l.judge b k (f a)).bind g := by
  unfold Lane.judge Lane.meet
  split_ifs <;> rfl

theorem firstDue_absolute {pt : Nat} (h : c.anchor = .absolute pt) :
    s.firstDue c = .done .none ({ c with anchor := .absolute pt, current := none }, if s.tb.set then some pt else none) := by
  rw [firstDue_eq, h]
  change Conv.bind (.done .none (Anchor.absolute pt, none)) _ = _
  rw [Conv.none_bind]
  unfold State.dueFor
  dsimp only [Anchor.lane?, Option.map_none]
  cases s.tb.set <;> rfl

theorem firstDue_label {p : Label} {o : Int} (h : c.anchor = .label i p o) :
    let l := s.lane i
    let p' := if !l.patternExists p then Spec.raised l p else p
    s.firstDue c
      = (l.judge (!l.patternExists p) .invalid
          { c with anchor := .label i p' o, current := if patternWild p then none else some (l.countOf p' : Int) }).bind s.dueFor := by
  intro l p'
  rw [firstDue_eq, h]
  rw [State.bringAnchor, Conv.bind_assoc, Lane.bring_pattern]
  simp only [Conv.none_bind]
  have hmap := judge_map l (!l.patternExists p) .invalid p'
    (fun x : Label => { c with anchor := .label i x o, current := if patternWild x then none else some (l.countOf x : Int) }) s.dueFor
  have hwild : patternWild p' = patternWild p := by
    simp only [p']
    split_ifs <;> rfl
  rw [← hwild]
  exact Eq.trans rfl hmap

theorem firstDue_sample {p : Int} (h : c.anchor = .sample i p) :
    s.firstDue c = ((s.lane i).judge false .invalid { c with anchor := .sample i p, current := some p }).bind s.dueFor := by
  rw [firstDue_eq, h]
  rfl

end

/-! ### What the reply carries -/

section
variable {s t : State}

theorem labelField_alike (h : s.Alike t) (i : Nat) (c : Option Nat) : (t.lane i).labelField c = (s.lane i).labelField c := by
  rw [h.2 i]; rfl

/-- The reply of a CUE_ADD, in the words of the statements. -/
theorem addFields_eq (h : s.Alike t) (slot width interval : Nat) (m : Conds) :
    t.addFields slot width interval m = Spec.added s slot (t.cue slot) width interval m := by
  unfold State.addFields Spec.added
  cases t.cue slot with
  | none => rfl
  | some c =>
    dsimp only
    cases ha : c.anchor with
    | absolute pt => rfl
    | sample i p => rfl
    | label i p o =>
      rw [State.currentFields]
      rw [labelField_alike h, labelField_eq]
      rfl

end

end Sys2Proof.Machine
end

section
/-! CUE_ADD: its checks, the cue taken, and its reply (R143, R144, R152). -/

namespace Sys2Proof.Machine

/-! ### The checks -/

section
variable {kind lane act line flag count interval late : Nat} {lab : Label} {pos : Int}

/-- The checks of step 1 of R143, in the words of the statement. -/
theorem addOk_iff :
    addOk kind lane lab pos act line flag count interval late = true
      ↔ kind ≤ 2 ∧ act ≤ 4 ∧ (act = 0 ∨ line ≤ 7) ∧ flag ≤ 1 ∧ late ≤ 1 ∧ (kind = 0 ∨ lane ≤ 15)
        ∧ (kind ≠ 1 ∨ (lab.hh < 24 ∨ lab.hh = 255) ∧ (lab.mm < 60 ∨ lab.mm = 255) ∧ (lab.ss < 60 ∨ lab.ss = 255) ∧ lab.ff ≠ 255)
        ∧ (kind ≠ 2 ∨ -2 ^ 47 ≤ pos ∧ pos < 2 ^ 47) ∧ (kind = 1 ∧ Spec.any lab → interval = 0)
        ∧ (¬ (kind = 1 ∧ Spec.any lab) → count = 0 ∨ interval ≠ 0) := by
  have hpace : (if (kind == 1 && patternWild lab) = true then interval == 0 else count == 0 || interval != 0) = true
      ↔ (kind = 1 ∧ Spec.any lab → interval = 0) ∧ (¬ (kind = 1 ∧ Spec.any lab) → count = 0 ∨ interval ≠ 0) := by
    rw [← patternWild_iff]
    by_cases h : kind = 1 ∧ patternWild lab = true
    · simp [h.1, h.2]
    · rw [if_neg (by simpa using h)]
      simp [h]
  have hsample : sampleInRange pos = true ↔ -2 ^ 47 ≤ pos ∧ pos < 2 ^ 47 := decide_eq_true_iff
  rw [addOk, Bool.and_eq_true, hpace]
  simp only [patternField, anyField, Bool.and_eq_true, hsample, Bool.or_eq_true, beq_iff_eq, decide_eq_true_eq, bne_iff_ne, and_assoc]

theorem actionOf_eq {a : Action} (h : Spec.action act a) : act ≤ 4 ∧ actionOf act = a := by
  simp only [Spec.action, List.mem_cons, Prod.mk.injEq, List.not_mem_nil, or_false] at h
  rcases h with ⟨rfl, rfl⟩ | ⟨rfl, rfl⟩ | ⟨rfl, rfl⟩ | ⟨rfl, rfl⟩ | ⟨rfl, rfl⟩ <;> exact ⟨by decide, rfl⟩

end

/-! ### The outcome of a CUE_ADD -/

section
variable {s : State} {slot kind pt lane act line flag count interval late : Nat} {lab : Label} {off pos width : Int}

/-- The anchor that a CUE_ADD carries lies on its lane: the sub-frame offset, the frame and the drop indicator, or a sound part (R143, step 4). -/
theorem anchorOk_iff (hk : kind ≤ 2) :
    s.anchorOk (anchorOf kind pt lane lab off pos) = true
      ↔ (kind = 1 → lab.ff < (s.lane lane).base ∧ lab.ind = (if (s.lane lane).df then 1 else 0) ∧ 0 ≤ off ∧ off < (s.lane lane).period)
        ∧ (kind = 2 → (s.lane lane).sound.isSome = true) := by
  rcases (by omega : kind = 0 ∨ kind = 1 ∨ kind = 2) with rfl | rfl | rfl
  · simp [anchorOf, State.anchorOk]
  · simp [anchorOf, State.anchorOk, bit, and_assoc]
  · simp [anchorOf, State.anchorOk]

/-- What a CUE_ADD makes of the first due found: the cue SUSPENDED or with its due, and the reply (R144). -/
def cueAdded (slot width interval : Nat) (m : Conds) (r : Cue × Option Nat) (s : State) : State :=
  match r.2 with
  | none =>
    let t := s.setCue slot (some { r.1 with state := .suspended, due := none })
    Spec.ok t (t.addFields slot width interval m)
  | some due =>
    let t := setDue slot { r.1 with state := .waiting } due s
    Spec.ok t (t.addFields slot width interval m)

/-- CUE_ADD, once its checks have passed. -/
theorem exec_cueAdd (h : s.resetLow = false) (hslot : slot ≤ 63) (hok : addOk kind lane lab pos act line flag count interval late = true)
    (hfree : s.cue slot = none) (hlane : kind ≠ 0 → (s.lane lane).state ≠ .free) (hanchor : s.anchorOk (anchorOf kind pt lane lab off pos) = true) :
    let a := anchorOf kind pt lane lab off pos
    let c := newCue a act width line flag count (s.intervalTaken a interval) late
    exec (.cueAdd slot kind pt lane lab off pos act width line flag count interval late) s
      = .next (match s.firstDue c with
        | .stopped m k => Spec.no (stickOpt a.lane? m s) k.status
        | .done m r => cueAdded slot c.width c.interval m r (stickOpt a.lane? m s)) := by
  intro a c
  have hnamed : ¬ ((anchorOf kind pt lane lab off pos).lane?.any fun i => decide ((s.lane i).state = .free)) = true := by
    rw [anchorOf_lane]
    split_ifs with hk
    · simp
    · simpa using hlane hk
  rw [exec, execCueAdd, request_live h]
  simp only [slotOk_eq (show slot < 64 by omega), hok, hfree, if_neg hnamed, hanchor, Bool.not_true, Bool.or_false, Bool.false_eq_true,
    if_false, Option.isSome_none]
  change Host.Outcome.next _ = Host.Outcome.next (match s.firstDue c with
        | .stopped m k => Spec.no (stickOpt c.anchor.lane? m s) k.status
        | .done m r => cueAdded slot c.width c.interval m r (stickOpt c.anchor.lane? m s))
  change Host.Outcome.next { (match (admitCue slot c s).2.2 with
      | some k => ((admitCue slot c s).1, (⟨k.status, []⟩ : Answer))
      | none => accept (admitCue slot c s).1 ((admitCue slot c s).1.addFields slot c.width c.interval (admitCue slot c s).2.1)).1 with
    answer := some (match (admitCue slot c s).2.2 with
      | some k => ((admitCue slot c s).1, (⟨k.status, []⟩ : Answer))
      | none => accept (admitCue slot c s).1 ((admitCue slot c s).1.addFields slot c.width c.interval (admitCue slot c s).2.1)).2 } = _
  have hadmit := admitCue.eq_1 slot c s
  cases hd : s.firstDue c with
  | stopped m k => rw [hd] at hadmit; rw [hadmit]; rfl
  | done m r =>
    obtain ⟨e, x⟩ := r
    cases x <;> rw [hd] at hadmit <;> rw [hadmit] <;> rfl

end

/-! ### A due set in a FREE slot -/

section
variable {s u : State} {slot x : Nat} {c : Cue}

theorem dueOf_congr (h : u.cues = s.cues) : u.dueOf = s.dueOf := by funext j; rw [State.dueOf, State.dueOf, State.cue, State.cue, h]

theorem enterDues_eq (hu : Noted s u) (hdues : slot ∉ s.dues) :
    enterDues slot c x u = { u.setCue slot (some { c with due := some x }) with dues := Spec.enter s slot x } := by
  obtain ⟨hcues, hd, -⟩ := hu.keeps
  have hfilter : s.dues.filter (· ≠ slot) = s.dues := List.filter_eq_self.mpr fun j hj => decide_eq_true fun he => hdues (he ▸ hj)
  rw [enterDues_scheduled, dueOf_congr hcues, hd, hfilter, placeDue_eq]
  rfl

theorem filter_placeDue (f : Nat → Nat) (slot due : Nat) (l : List Nat) :
    (placeDue f slot due l).filter (· ≠ slot) = l.filter (· ≠ slot) := by
  induction l with
  | nil => simp [placeDue]
  | cons j l ih =>
    rw [placeDue]
    split_ifs
    · rw [List.filter_cons, List.filter_cons, ih]
    · rw [List.filter_cons, if_neg (by simp)]

theorem placeDue_congr {f g : Nat → Nat} (slot due : Nat) {l : List Nat} (h : ∀ j ∈ l, f j = g j) : placeDue f slot due l = placeDue g slot due l := by
  induction l with
  | nil => rfl
  | cons j l ih => rw [placeDue, placeDue, h j List.mem_cons_self, ih fun i hi => h i (List.mem_cons_of_mem j hi)]

/-- A firing seen from a state that the slot and its due are not in yet. -/
theorem fires_of_entered {t : State} (hdues : slot ∉ u.dues) {y : Option Cue} {d : Int}
    (h : Spec.fires { u with cues := u.cues.put slot y } t slot c d) : Spec.fires u t slot c d := by
  obtain ⟨hfired, hframe, hlanes, hflags, hnone⟩ := h
  have henter : ∀ due, Spec.enter { u with cues := u.cues.put slot y } slot due = Spec.enter u slot due := fun due => by
    rw [Spec.enter, Spec.enter, ← placeDue_eq, ← placeDue_eq]
    refine placeDue_congr _ _ fun j hj => ?_
    rw [State.dueOf, State.dueOf, State.cue, Bank.get_put_ne _ fun he : slot = j => hdues (he ▸ hj)]
    rfl
  have hlines : ∀ r : Cue, (Spec.onLine (if c.state = .pulsing ∧ r.action ≠ .pulse then
        Spec.onLine { u with cues := u.cues.put slot y } c.line fun l => Spec.idled l slot else { u with cues := u.cues.put slot y }) c.line
          fun l => Spec.driven l slot r.action).lines
      = (Spec.onLine (if c.state = .pulsing ∧ r.action ≠ .pulse then Spec.onLine u c.line fun l => Spec.idled l slot else u) c.line
          fun l => Spec.driven l slot r.action).lines := fun r => by
    unfold Spec.onLine
    cases c.line <;> split_ifs <;> rfl
  have hflagged : ∀ f, State.flag (if c.flagOnFire then raise .cueFired { u with cues := u.cues.put slot y } else { u with cues := u.cues.put slot y }) f
      = State.flag (if c.flagOnFire then raise .cueFired u else u) f := fun f => by split_ifs <;> rfl
  have hattn : State.attn (if c.flagOnFire then raise .cueFired { u with cues := u.cues.put slot y } else { u with cues := u.cues.put slot y })
      = State.attn (if c.flagOnFire then raise .cueFired u else u) := by split_ifs <;> rfl
  refine ⟨hfired, hframe.trans ?_, hlanes, fun f h1 h2 => (hflags f h1 h2).trans (hflagged f), fun hn => ⟨(hnone hn).1, (hnone hn).2.trans hattn⟩⟩
  dsimp only
  rw [hlines, Bank.put_put]
  simp only [henter]

/-- What becomes of a cue set up in a FREE slot with a due: in time, late and dropped, or late and fired (R145, R152). -/
theorem setDue_free (hu : Noted s u) (hlt : slot < 64) (hfree : s.cue slot = none) (hdues : slot ∉ s.dues) (hlines : ∀ j < 8, (s.line j).holder ≠ some slot)
    (hown : c.owner = none) (hline : ∀ j ∈ c.line, j < 8) :
    (s.tb.pt ≤ x → setDue slot c x u = { u.setCue slot (some { c with due := some x }) with dues := Spec.enter s slot x })
      ∧ (x < s.tb.pt → c.drop = true → setDue slot c x u = raise .cueDropped u)
      ∧ (x < s.tb.pt → c.drop = false → Spec.fires (raise .cueLate u) (setDue slot c x u) slot { c with due := some x } x) := by
  obtain ⟨hcues, hd, hl, -, htb, -⟩ := hu.keeps
  have hentered := enterDues_eq (c := c) (x := x) hu hdues
  have hfilter : u.dues.filter (· ≠ slot) = u.dues := by
    rw [hd]; exact List.filter_eq_self.mpr fun j hj => decide_eq_true fun he => hdues (he ▸ hj)
  have hcue : (enterDues slot c x u).cue slot = some { c with due := some x } := by rw [hentered]; exact Bank.get_put_same _ hlt _ _
  have hpt : (enterDues slot c x u).tb.pt = s.tb.pt := by rw [hentered]; exact congrArg Timebase.pt htb
  refine ⟨fun hx => ?_, fun hx hdrop => ?_, fun hx hdrop => ?_⟩
  · rw [setDue, if_neg (by rw [hpt]; omega), hentered]
  · rw [setDue, if_pos (by rw [hpt]; exact hx), lateCue, hcue]
    simp only [hdrop, if_true]
    rw [dropCue, hcue]
    simp only [hown, reportGone]
    congr 1
    have hrelease : releaseLine slot c.line (enterDues slot c x u) = enterDues slot c x u := by
      rw [releaseLine_eq]
      split
      · rfl
      · next j hj =>
        refine if_neg ?_
        rw [hentered]
        change ¬ (u.line j).holder = some slot
        rw [State.line, hl]
        exact hlines j (hline j hj)
    have hnone : u.cues.get slot none = none := by rw [hcues]; exact hfree
    have hput : u.cues.put slot none = u.cues := by
      have := Bank.put_get u.cues slot none
      rwa [hnone] at this
    rw [freeSlot_scheduled hcue]
    simp only [hrelease]
    rw [enterDues_scheduled]
    simp only [State.scheduled, Bank.put_put, filter_placeDue, hput, hfilter]
  · rw [setDue, if_pos (by rw [hpt]; exact hx), lateCue, hcue]
    dsimp only
    rw [if_neg (by rw [hdrop]; decide)]
    have hfires := fires_fireCue (s := raise .cueLate (enterDues slot c x u)) (slot := slot) hcue rfl
    refine fires_of_entered (y := some { c with due := some x }) (by rw [show (raise .cueLate u).dues = u.dues from rfl, hd]; exact hdues) ?_
    have hv : ({ raise .cueLate (enterDues slot c x u) with dues := (raise .cueLate (enterDues slot c x u)).dues.filter (· ≠ slot) } : State)
        = { raise .cueLate u with cues := (raise .cueLate u).cues.put slot (some { c with due := some x }) } := by
      rw [enterDues_scheduled]
      simp only [State.scheduled, raise_dues, filter_placeDue, hfilter]
      rfl
    rw [hv] at hfires
    exact hfires

end


/-! ### The cue that is taken -/

section
variable {s : State} {lane act line flag count interval late : Nat} {lab : Label} {off pos width : Int}

/-- The cue that a CUE_ADD sets up, in the words of the statement. -/
theorem newCue_eq {a : Action} (ha : Spec.action act a) (anchor : Anchor) :
    newCue anchor act width line flag count interval late
      = { state := .suspended, owner := none, anchor := anchor, current := none, action := a, width := (max 54 (min 54000000 width)).toNat
          line := if act = 0 then none else some line, flagOnFire := decide (flag = 1), repeatCount := count
          left := if count = 65535 then none else some (count + 1), interval := interval, drop := decide (late = 1), staged := none, due := none
          remaining := 0 } := by
  rw [newCue, (actionOf_eq ha).2, pulseWidth, clampNat, clampInt_eq (by decide), beq_decide, beq_decide]
  rfl

/-- CUE_ADD on a lane, once its checks have passed: its first due resolved. -/
theorem exec_cueAdd_lane {slot kind pt : Nat} {pos : Int} (h : s.resetLow = false) (hslot : slot ≤ 63)
    (hok : addOk kind lane lab pos act line flag count interval late = true) (hfree : s.cue slot = none) (hlane : (s.lane lane).state ≠ .free)
    (hanchor : s.anchorOk (anchorOf kind pt lane lab off pos) = true) (hk : kind ≠ 0) :
    let a := anchorOf kind pt lane lab off pos
    let c := newCue a act width line flag count (s.intervalTaken a interval) late
    exec (.cueAdd slot kind pt lane lab off pos act width line flag count interval late) s
      = .next (resolved lane (cueAdded slot c.width c.interval) (s.firstDue c) s) := by
  intro a c
  have hl : a.lane? = some lane := by simp only [a, anchorOf_lane, if_neg hk]
  refine (exec_cueAdd h hslot hok hfree (fun _ => hlane) hanchor).trans (congrArg _ ?_)
  change (match s.firstDue c with
    | .stopped m k => Spec.no (stickOpt a.lane? m s) k.status
    | .done m r => cueAdded slot c.width c.interval m r (stickOpt a.lane? m s)) = _
  rw [hl]
  cases s.firstDue c <;> rfl

/-- The outcome of a cue that is taken SUSPENDED. -/
theorem cueAdded_none {u : State} {slot w i : Nat} {m : Conds} {c : Cue} (hu : Noted s u) (hlt : slot < 64) (hst : c.state = .suspended) (hdue : c.due = none) :
    cueAdded slot w i m (c, none) u = Spec.ok (u.setCue slot (some c)) (Spec.added s slot (some c) w i m) := by
  have hc : ({ c with state := .suspended, due := none } : Cue) = c := by rw [← hst, ← hdue]
  have hcue : (u.setCue slot (some c)).cue slot = some c := Bank.get_put_same _ hlt _ _
  rw [cueAdded]
  dsimp only
  rw [hc, addFields_eq (s := s) (t := u.setCue slot (some c)) hu.alike, hcue]

/-- The outcome of a cue that is taken with a due. -/
theorem cueAdded_some {u : State} {slot w i x : Nat} {m : Conds} {c : Cue} (hu : Noted s u) :
    cueAdded slot w i m (c, some x) u
      = Spec.ok (setDue slot { c with state := .waiting } x u) (Spec.added s slot ((setDue slot { c with state := .waiting } x u).cue slot) w i m) := by
  rw [cueAdded]
  dsimp only
  rw [addFields_eq (hu.alike.trans (setDue_ahead _ _ _ _).alike)]

/-- The due of a cue on a lane whose mapping is in force (R144). -/
theorem dueFor_mapped {c : Cue} {x : Int} {cur : Option Int} (hset : s.tb.set = true) (hlane : c.anchor.lane? = some lane)
    (hst : (s.lane lane).state.mapped = true) (hr : (s.lane lane).rateOk) (hdue : Spec.due s c.anchor c.current s.tb.pt x cur) :
    s.dueFor c
      = ((s.lane lane).judge (!Spec.whole s c.anchor c.current x) .inexact x).bind fun x =>
          ((s.lane lane).judge (decide (x < 0 ∨ 2 ^ 64 ≤ x)) .range (Spec.clampPt x).toNat).bind fun t =>
            .done .none ({ c with current := cur }, if (s.lane lane).state = .running then some t else none) := by
  have hwait : (s.lane lane).state ≠ .waiting := fun hw => by rw [hw] at hst; cases hst
  unfold State.dueFor
  rw [hset, hlane, dueAgainst_of_due hlane hr hdue]
  simp only [Option.map_some, Option.some.injEq, hwait, Bool.not_true, Bool.false_or, decide_false, Bool.false_eq_true, if_false, Conv.bind_assoc, Conv.none_bind]
  revert hst
  cases (s.lane lane).state <;> simp [LaneState.mapped]

/-- The due of a cue while the time is UNSET, or on a WAITING lane: none (R144). -/
theorem dueFor_unmapped {c : Cue} (hlane : c.anchor.lane? = some lane) (h : s.tb.set = false ∨ (s.lane lane).state = .waiting) :
    s.dueFor c = .done .none (c, none) := by
  unfold State.dueFor
  rw [hlane]
  refine if_pos ?_
  rcases h with h | h <;> simp [h]

end

/-- Settles O49: the checks in their order, the conditions of the first due, and what becomes of the cue at it. -/
theorem cueAddSetsUpACue : Obligations.CueAddSetsUpACue := by
  unfold Obligations.CueAddSetsUpACue
  intro s slot kind pt lane lab off pos act width line flag count interval late h cmd l any fits onLane
  have hfits : fits ↔ addOk kind lane lab pos act line flag count interval late = true := addOk_iff.symm
  have hnamed : kind ≠ 0 → (anchorOf kind pt lane lab off pos).lane? = some lane := fun hk => by rw [anchorOf_lane, if_neg hk]
  refine ⟨fun hbad => ?_, fun hslot hf hused => ?_, fun hslot hf hfree hk hst => ?_, fun hslot hf hfree hk hst hon => ?_,
    fun hslot hf hfree hdues hlines a ha => ?_⟩
  · have hbad : (!slotOk slot || !addOk kind lane lab pos act line flag count interval late) = true := by
      rcases hbad with hbad | hbad
      · rw [slotOk_eq_false (by omega)]; rfl
      · rw [hfits, Bool.not_eq_true] at hbad; rw [hbad, Bool.not_false, Bool.or_true]
    rw [show cmd = _ from rfl, exec, execCueAdd, request_live h]
    simp only [hbad, if_true]; rfl
  · rw [show cmd = _ from rfl, exec, execCueAdd, request_live h]
    simp only [slotOk_eq (show slot < 64 by omega), hfits.mp hf, hused, Bool.not_true, Bool.or_false, Bool.false_eq_true, if_false, if_true]; rfl
  · have hany : ((anchorOf kind pt lane lab off pos).lane?.any fun i => decide ((s.lane i).state = .free)) = true := by
      rw [hnamed hk]; exact decide_eq_true hst
    rw [show cmd = _ from rfl, exec, execCueAdd, request_live h]
    simp only [slotOk_eq (show slot < 64 by omega), hfits.mp hf, hfree, hany, Bool.not_true, Bool.or_false, Bool.false_eq_true, if_false, if_true, Option.isSome_none]; rfl
  · have hany : ((anchorOf kind pt lane lab off pos).lane?.any fun i => decide ((s.lane i).state = .free)) = false := by
      rw [hnamed hk]; exact decide_eq_false hst
    have hno : s.anchorOk (anchorOf kind pt lane lab off pos) = false := by
      rw [← Bool.not_eq_true, anchorOk_iff hf.1]; exact hon
    rw [show cmd = _ from rfl, exec, execCueAdd, request_live h]
    simp only [slotOk_eq (show slot < 64 by omega), hfits.mp hf, hfree, hany, hno, Bool.not_true, Bool.or_false, Bool.false_eq_true, if_false, if_true,
      Option.isSome_none, Bool.not_false]; rfl
  · intro w q timed
    have hlt : slot < 64 := by omega
    have htimed : ∀ (u : State) (c : Cue) (x : Nat) (met : Conds), Noted s u → c.owner = none → (∀ j ∈ c.line, j < 8) → c.drop = decide (late = 1) →
        exec cmd s = .next (cueAdded slot w c.interval met (c, some x) u) → timed u c x met := fun u c x met hu hown hline hdrop hexec => by
      have hcues := hu.keeps.1
      obtain ⟨hin, hdropped, hfired⟩ := setDue_free (c := { c with state := .waiting }) (x := x) hu hlt hfree hdues hlines hown hline
      have hsome := cueAdded_some (w := w) (i := c.interval) (x := x) (m := met) (c := c) (slot := slot) hu
      refine ⟨fun hx => ?_, fun hx hl => ?_, fun hx hl => ⟨_, hexec.trans (congrArg _ hsome), hfired hx (by rw [hdrop, hl]; rfl)⟩⟩
      · have hcue : (setDue slot { c with state := .waiting } x u).cue slot = some { c with state := .waiting, due := some x } := by
          rw [hin hx]; exact Bank.get_put_same _ hlt _ _
        rw [hexec, hsome, hcue, hin hx]
      · have hcue : (setDue slot { c with state := .waiting } x u).cue slot = none := by
          rw [hdropped hx (by rw [hdrop, hl]; rfl), State.cue, raise_cues, hcues]; exact hfree
        rw [hexec, hsome, hcue, hdropped hx (by rw [hdrop, hl]; rfl)]
    have hqline : ∀ j ∈ (if act = 0 then none else some line), j < 8 := fun j hj => by
      obtain ⟨-, -, hline, -⟩ := hf
      split_ifs at hj with h0
      · cases hj
      · cases hj
        have := hline.resolve_left h0
        omega
    have hexec := fun hst hon => exec_cueAdd (pt := pt) (off := off) (width := width) h hslot (hfits.mp hf) hfree hst ((anchorOk_iff hf.1).mpr hon)
    refine ⟨fun hk hset => ?_, fun hk hset => ?_, fun hk hon hr hst => ?_⟩
    · subst hk
      have he : exec cmd s = _ := hexec (fun hk => absurd rfl hk) ⟨fun hk => (by cases hk), fun hk => (by cases hk)⟩
      rw [he, newCue_eq ha, firstDue_absolute rfl, hset]
      exact congrArg _ (cueAdded_none (c := q) Noted.refl hlt rfl rfl)
    · subst hk
      have he : exec cmd s = _ := hexec (fun hk => absurd rfl hk) ⟨fun hk => (by cases hk), fun hk => (by cases hk)⟩
      rw [newCue_eq ha, firstDue_absolute rfl, hset] at he
      exact htimed s q pt .none Noted.refl rfl hqline rfl he
    · intro missing taken c s₁
      have hkind : kind = 1 ∨ kind = 2 := by have := hf.1; omega
      have hanchor : c.anchor.lane? = some lane := by
        simp only [c]
        split_ifs <;> rfl
      have he : exec cmd s = .next (resolved lane (cueAdded slot w c.interval) ((l.judge missing .invalid c).bind s.dueFor) s) := by
        have he : exec cmd s = _ := exec_cueAdd_lane h hslot (hfits.mp hf) hfree hst ((anchorOk_iff hf.1).mpr hon) hk
        rw [he, newCue_eq ha]
        rcases hkind with rfl | rfl
        · have hmissing : missing = !l.patternExists lab := by
            simp only [missing, Lane.patternExists, anyField, true_and]
            by_cases hm : lab.mm = 255
            · simp [hm]
            · cases l.labelExists lab <;> simp [hm]
          have hc : c = { q with
              anchor := .label lane taken off, interval := min interval (l.nDay - 1)
              current := if patternWild lab then none else some (l.countOf taken : Int) } := by
            have hwild : patternWild lab = true ↔ any := patternWild_iff
            rw [if_congr hwild rfl rfl]
            rfl
          have htaken : taken = if !l.patternExists lab then Spec.raised l lab else lab := by rw [← hmissing]
          rw [hc, htaken, hmissing]
          refine congrArg (fun x => Host.Outcome.next (resolved lane _ x s)) ((firstDue_label (i := lane) rfl).trans ?_)
          rfl
        · refine congrArg (fun x => Host.Outcome.next (resolved lane _ x s)) ((firstDue_sample (i := lane) rfl).trans ?_)
          rfl
      have hdrop : c.drop = decide (late = 1) := rfl
      have hjudge := resolved_judge (l := l) (b := missing) (c := .invalid) (i := lane) (cueAdded slot w c.interval) s.dueFor c s
      refine ⟨fun hm hmask => by rw [he, hjudge.1 hm hmask]; rfl, fun hgo => ⟨fun hun => ?_, fun x cur hset hmapped hmapping hdue => ?_⟩⟩
      · have hnoted : Noted s s₁ := by rw [show s₁ = _ from stuckIf_eq ..]; exact Noted.refl.stick _ _
        rw [he, hjudge.2 hgo, dueFor_unmapped hanchor hun, resolved_done, cueAdded_none hnoted hlt rfl rfl]
        cases missing <;> rfl
      · intro part far s₂ s₃
        have hnoted : Noted s s₃ := by
          rw [show s₃ = _ from stuckIf_eq .., show s₂ = _ from stuckIf_eq .., show s₁ = _ from stuckIf_eq ..]
          exact ((Noted.refl.stick _ _).stick _ _).stick _ _
        have hpart := resolved_judge (l := l) (b := part) (c := .inexact) (i := lane)
          (fun m r => cueAdded slot w c.interval ((if missing then Cond.invalid.only else .none).or m) r)
          (fun x => (l.judge (decide (x < 0 ∨ 2 ^ 64 ≤ x)) .range (Spec.clampPt x).toNat).bind fun t =>
            .done .none ({ c with current := cur }, if l.state = .running then some t else none)) x s₁
        have hfar := resolved_judge (l := l) (b := far) (c := .range) (i := lane)
          (fun m r => cueAdded slot w c.interval ((if missing then Cond.invalid.only else .none).or ((if part then Cond.inexact.only else .none).or m)) r)
          (fun t => .done .none ({ c with current := cur }, if l.state = .running then some t else none)) (Spec.clampPt x).toNat s₂
        rw [he, hjudge.2 hgo, dueFor_mapped hset hanchor hmapped hr hdue]
        refine ⟨fun hp hmask => congrArg _ (hpart.1 hp hmask), fun hgo₁ hp hmask => congrArg _ ((hpart.2 hgo₁).trans (hfar.1 hp hmask)), fun hgo₁ hgo₂ => ?_⟩
        intro met found
        have hmet : (if missing then Cond.invalid.only else .none).or ((if part then Cond.inexact.only else .none).or ((if far then Cond.range.only else .none).or .none))
            = met := by
          simp only [met]
          cases missing <;> cases part <;> cases far <;> rfl
        have hfound := (hpart.2 hgo₁).trans ((hfar.2 hgo₂).trans (resolved_done ..))
        rw [hmet] at hfound
        refine ⟨fun hheld => ?_, fun hrun => ?_⟩
        · have hno : l.state ≠ .running := by rcases hheld with hs | hs <;> rw [hs] <;> decide
          rw [if_neg hno] at hfound
          exact congrArg _ (hfound.trans (cueAdded_none (c := found) hnoted hlt rfl rfl))
        · rw [if_pos hrun] at hfound
          refine htimed s₃ found _ met hnoted rfl hqline hdrop ?_
          rw [he, hjudge.2 hgo, dueFor_mapped hset hanchor hmapped hr hdue]
          exact congrArg _ hfound



end Sys2Proof.Machine
end

section
/-! What the operations on one cue leave of everything else, and what a run of them leaves of each cue (sections 8.4 to 8.7). -/

namespace Sys2Proof.Machine

/-! ### Devices told of their cues -/

/-- Each device is as it was, or has been told that its cue was dropped (R134). -/
def State.Told (s t : State) : Prop :=
  ∀ n, (s.device n = none → t.device n = none) ∧ ∀ d, s.device n = some d → t.device n = some d ∨ t.device n = some (d.cueGone false)

theorem Device.cueGone_twice (d : Device) : (d.cueGone false).cueGone false = d.cueGone false := by
  unfold Device.cueGone
  cases hr : d.ring.isEmpty <;> simp [hr, Device.silenceTicks]

/-- A dropped cue leaves its device's observations and estimates. -/
theorem Device.cueGone_false (d : Device) :
    (d.cueGone false).ring = d.ring ∧ (d.cueGone false).offsetEst = d.offsetEst ∧ (d.cueGone false).driftEst = d.driftEst
      ∧ (d.cueGone false).outliers = d.outliers := by
  unfold Device.cueGone
  cases hr : d.ring.isEmpty <;> simp

namespace State.Told

variable {s t u : State}

theorem of_eq (h : t.devices = s.devices) : s.Told t := fun n => by
  rw [State.device, State.device, h]
  exact ⟨id, fun _ hd => Or.inl hd⟩

theorem trans (h : s.Told t) (k : t.Told u) : s.Told u := fun n => by
  refine ⟨fun hn => (k n).1 ((h n).1 hn), fun d hd => ?_⟩
  rcases (h n).2 d hd with hd | hd
  · exact (k n).2 d hd
  · rcases (k n).2 _ hd with hd | hd
    · exact Or.inr hd
    · exact Or.inr (by rw [hd, Device.cueGone_twice])

/-- What a device told of its cue keeps. -/
theorem keeps (h : s.Told t) {n : Nat} {d : Device} (hd : s.device n = some d) :
    ∃ e, t.device n = some e ∧ e.ring = d.ring ∧ e.offsetEst = d.offsetEst ∧ e.driftEst = d.driftEst ∧ e.outliers = d.outliers
      ∧ (e = d ∨ e = d.cueGone false) := by
  rcases (h n).2 d hd with he | he
  · exact ⟨d, he, rfl, rfl, rfl, rfl, Or.inl rfl⟩
  · obtain ⟨h1, h2, h3, h4⟩ := d.cueGone_false
    exact ⟨_, he, h1, h2, h3, h4, Or.inr rfl⟩

end State.Told

theorem reportGone_told (owner : Option Nat) (s : State) : s.Told (reportGone owner false s) := by
  cases owner with
  | none => exact State.Told.of_eq rfl
  | some n =>
    rw [reportGone, deviceCueGone]
    split
    · exact State.Told.of_eq rfl
    · next d hd =>
      have hlt := State.device_lt hd
      have hdevices : ∀ b, (raiseIf b .deviceTolerance (s.setDevice n (some (d.cueGone false)))).devices = (s.setDevice n (some (d.cueGone false))).devices :=
        fun b => by cases b <;> rfl
      refine State.Told.trans (t := s.setDevice n (some (d.cueGone false))) (fun m => ?_) (State.Told.of_eq (hdevices _))
      by_cases hm : m = n
      · subst hm
        rw [State.device_setDevice_same hlt]
        refine ⟨fun hnone => ?_, fun e he => Or.inr ?_⟩
        · rw [hd] at hnone; cases hnone
        · rw [hd] at he; cases he; rfl
      · rw [State.device_setDevice_ne hm]
        exact ⟨id, fun _ he => Or.inl he⟩

/-! ### The work on one slot -/

/-- `t` comes from `s` by work on the cue of one slot: no other cue, no other place in the due list, no lane but the sticky flags of the
cue's own, and no device but one told of its cue. -/
structure State.Worked (slot : Nat) (s t : State) : Prop where
  ahead : s.Ahead t
  cue : ∀ j, j ≠ slot → t.cue j = s.cue j
  dues : t.dues.filter (· ≠ slot) = s.dues.filter (· ≠ slot)
  nodup : s.dues.Nodup → t.dues.Nodup
  anchor : ∀ e, t.cue slot = some e → ∃ c, s.cue slot = some c ∧ e.anchor.lane? = c.anchor.lane?
  lane : ∀ j, (∀ c, s.cue slot = some c → c.anchor.lane? ≠ some j) → t.lane j = s.lane j
  told : s.Told t

namespace State.Worked

variable {s t u : State} {slot j : Nat}

theorem refl (slot : Nat) (s : State) : s.Worked slot s :=
  ⟨Ahead.refl s, fun _ _ => rfl, rfl, id, fun e he => ⟨e, he, rfl⟩, fun _ _ => rfl, Told.of_eq rfl⟩

theorem trans (h : s.Worked slot t) (k : t.Worked slot u) : s.Worked slot u where
  ahead := h.ahead.trans k.ahead
  cue := fun j hj => (k.cue j hj).trans (h.cue j hj)
  dues := k.dues.trans h.dues
  nodup := fun hn => k.nodup (h.nodup hn)
  anchor := fun e he => by
    obtain ⟨c, hc, hce⟩ := k.anchor e he
    obtain ⟨b, hb, hbc⟩ := h.anchor c hc
    exact ⟨b, hb, hce.trans hbc⟩
  lane := fun j hj => (k.lane j fun c hc => by
    obtain ⟨b, hb, hbc⟩ := h.anchor c hc
    rw [hbc]
    exact hj b hb).trans (h.lane j hj)
  told := h.told.trans k.told

/-- A slot elsewhere keeps its place in the due list. -/
theorem mem (h : s.Worked slot t) (hj : j ≠ slot) : j ∈ t.dues ↔ j ∈ s.dues := by
  have := congrArg (j ∈ ·) h.dues
  simpa [hj] using this

end State.Worked

section
variable {s u : State} {slot : Nat} {c : Cue}

/-- What is noted on the cue's own lane, with the schedule written at its slot, is work on the slot. -/
theorem worked_scheduled (hc : s.cue slot = some c) (hu : Noted s u) (hlane : ∀ j, c.anchor.lane? ≠ some j → u.lane j = s.lane j) {y : Option Cue}
    (hy : ∀ e, y = some e → e.anchor.lane? = c.anchor.lane?) {dues : List Nat}
    (hd : dues = s.dues.filter (· ≠ slot) ∨ ∃ f x, dues = placeDue f slot x (s.dues.filter (· ≠ slot))) (lines : Bank Line 8) :
    s.Worked slot (u.scheduled (s.cues.put slot y) dues lines) where
  ahead := hu.ahead.trans (State.Ahead.of_eq rfl rfl rfl)
  cue := fun j hj => cue_scheduled_ne s hj y dues lines
  dues := by
    change dues.filter _ = _
    rcases hd with rfl | ⟨f, x, rfl⟩
    · simp
    · rw [filter_placeDue]; simp
  nodup := fun hn => by
    change dues.Nodup
    rcases hd with rfl | ⟨f, x, rfl⟩
    · exact hn.filter _
    · exact (placeDue_perm f slot x _).nodup_iff.mpr (List.nodup_cons.mpr ⟨not_mem_filter _ _, hn.filter _⟩)
  anchor := fun e he => ⟨c, hc, hy e ((cue_scheduled (State.cue_lt hc)).symm.trans he)⟩
  lane := fun j hj => hlane j (hj c hc)
  told := State.Told.of_eq hu.keeps.2.2.2.1

theorem Noted.worked (hu : Noted s u) (hlane : ∀ j, (∀ c, s.cue slot = some c → c.anchor.lane? ≠ some j) → u.lane j = s.lane j) : s.Worked slot u := by
  obtain ⟨hcues, hdues, -, hdevices, -⟩ := hu.keeps
  have hcue : ∀ j, u.cue j = s.cue j := fun j => by rw [State.cue, hcues]; rfl
  exact ⟨hu.ahead, fun j _ => hcue j, by rw [hdues], by rw [hdues]; exact id, fun e he => ⟨e, (hcue slot).symm.trans he, rfl⟩, hlane, State.Told.of_eq hdevices⟩

theorem raise_worked (slot : Nat) (f : Flag) (s : State) : s.Worked slot (raise f s) := (Noted.refl.raise f).worked fun _ _ => rfl

theorem stickOpt_worked (hc : s.cue slot = some c) (m : Conds) : s.Worked slot (stickOpt c.anchor.lane? m s) :=
  (Noted.refl.stickOpt _ m).worked fun _ hj => lane_stickOpt_ne (hj c hc) m s

theorem firedNoted_lane {j : Nat} (h : c.anchor.lane? ≠ some j) : (s.firedNoted c).lane j = s.lane j := by
  rw [State.firedNoted, lane_stickOpt_ne h, State.lane, raiseIf_lanes]; rfl

theorem Cue.spent_anchor {c e : Cue} (h : c.spent = some e) : e.anchor = c.anchor := by
  unfold Cue.spent at h
  split_ifs at h
  cases h; rfl

theorem fireCue_worked (slot : Nat) (s : State) : s.Worked slot (fireCue slot s) := by
  cases hc : s.cue slot with
  | none => rw [fireCue, hc]; exact State.Worked.refl slot s
  | some c =>
    have hanchor : c.fired.anchor.lane? = c.anchor.lane? := congrArg Anchor.lane? c.fired_keeps.1
    have hspent : ∀ cur e, ({ c.fired with current := cur } : Cue).spent = some e → e.anchor.lane? = c.anchor.lane? :=
      fun cur e he => (congrArg Anchor.lane? (Cue.spent_anchor he)).trans hanchor
    cases hf : c.fired.further with
    | false =>
      rw [fireCue_last hc hf]
      refine worked_scheduled hc (Noted.refl.raiseIf _ _) (fun j _ => ?_) (fun e he => hspent c.fired.current e he) (Or.inl rfl) _
      rw [State.lane, raiseIf_lanes]; rfl
    | true =>
      obtain ⟨hfound, hended, hstopped⟩ := fireCue_more hc hf
      cases hn : (s.seriesAfter c).next with
      | stopped m k =>
        rw [hstopped m k hn]
        exact worked_scheduled hc ((firedNoted_noted s c).raise _) (fun j hj => firedNoted_lane hj) (hspent _) (Or.inl rfl) _
      | done m n =>
        cases n with
        | none =>
          rw [hended m hn]
          exact worked_scheduled hc (firedNoted_noted s c) (fun j hj => firedNoted_lane hj) (hspent _) (Or.inl rfl) _
        | some n =>
          rw [hfound m n hn]
          refine worked_scheduled hc (firedNoted_noted s c) (fun j hj => firedNoted_lane hj) (fun e he => ?_) (Or.inr ⟨_, _, rfl⟩) _
          cases he; exact hanchor

theorem freeSlot_worked (slot : Nat) (s : State) : s.Worked slot (freeSlot slot s) := by
  cases hc : s.cue slot with
  | none => rw [freeSlot, hc]; exact State.Worked.refl slot s
  | some c =>
    rw [freeSlot_scheduled hc]
    exact worked_scheduled hc Noted.refl (fun _ _ => rfl) (fun e he => by cases he) (Or.inl rfl) _

theorem reportGone_worked (slot : Nat) (owner : Option Nat) (s : State) : s.Worked slot (reportGone owner false s) := by
  have hcues := reportGone_cues owner false s
  have hcue : ∀ j, (reportGone owner false s).cue j = s.cue j := fun j => by rw [State.cue, hcues]; rfl
  obtain ⟨hlanes, hdues⟩ : (reportGone owner false s).lanes = s.lanes ∧ (reportGone owner false s).dues = s.dues := by
    cases owner with
    | none => exact ⟨rfl, rfl⟩
    | some n =>
      rw [reportGone, deviceCueGone]
      split
      · exact ⟨rfl, rfl⟩
      · unfold raiseIf
        split_ifs <;> exact ⟨rfl, rfl⟩
  exact ⟨reportGone_ahead s owner false, fun j _ => hcue j, by rw [hdues], by rw [hdues]; exact id,
    fun e he => ⟨e, (hcue slot).symm.trans he, rfl⟩, fun j _ => by rw [State.lane, hlanes]; rfl, reportGone_told owner s⟩

theorem dropCue_worked (slot : Nat) (s : State) : s.Worked slot (dropCue slot s) := by
  unfold dropCue
  split
  · exact State.Worked.refl slot s
  · exact (freeSlot_worked slot s).trans ((raise_worked slot _ _).trans (reportGone_worked slot _ _))

theorem lateCue_worked (slot : Nat) (s : State) : s.Worked slot (lateCue slot s) := by
  unfold lateCue
  split
  · exact State.Worked.refl slot s
  · split_ifs
    · exact dropCue_worked slot s
    · exact (raise_worked slot _ s).trans (fireCue_worked slot _)

theorem setDue_worked {e : Cue} (he : s.cue slot = some e) (hanchor : c.anchor.lane? = e.anchor.lane?) (due : Nat) :
    s.Worked slot (setDue slot c due s) := by
  have hentered : s.Worked slot (enterDues slot c due s) := by
    rw [enterDues_scheduled]
    refine worked_scheduled he Noted.refl (fun _ _ => rfl) (fun x hx => ?_) (Or.inr ⟨_, _, rfl⟩) _
    cases hx; exact hanchor
  unfold setDue
  dsimp only
  split_ifs
  · exact hentered.trans (lateCue_worked slot _)
  · exact hentered

theorem recomputeCue_worked (slot : Nat) (s : State) : s.Worked slot (recomputeCue slot s) := by
  cases hc : s.cue slot with
  | none => rw [recomputeCue, hc]; exact State.Worked.refl slot s
  | some c =>
    obtain ⟨hdone, hstopped⟩ := recomputeCue_eq hc
    have hcue : ∀ m, (stickOpt c.anchor.lane? m s).cue slot = some c := fun m => (stickOpt_cue _ m s slot).trans hc
    cases hd : s.dueAgainst c.anchor c.current s.tb.pt with
    | done m f => rw [hdone m f hd]; exact (stickOpt_worked hc m).trans (setDue_worked (c := { c with state := if c.state = .suspended then .waiting else c.state, current := f.current }) (hcue m) rfl _)
    | stopped m k => rw [hstopped m k hd]; exact (stickOpt_worked hc m).trans (dropCue_worked slot _)

theorem startAbsolute_worked (slot : Nat) (s : State) : s.Worked slot (startAbsolute slot s) := by
  cases hc : s.cue slot with
  | none => rw [startAbsolute, hc]; exact State.Worked.refl slot s
  | some c =>
    rw [startAbsolute, hc]
    dsimp only
    split
    · exact setDue_worked (c := { c with state := .waiting }) hc rfl _
    · exact State.Worked.refl slot s

end

/-! ### A cue that nothing works on -/

/-- The slot's cue and its place in the due list are as they were, and so is all that a due is found from. -/
structure State.Kept (slot : Nat) (s t : State) : Prop where
  ahead : s.Ahead t
  cue : t.cue slot = s.cue slot
  mem : slot ∈ t.dues ↔ slot ∈ s.dues

namespace State.Kept

variable {s t u : State} {slot : Nat}

theorem refl (slot : Nat) (s : State) : s.Kept slot s := ⟨Ahead.refl s, rfl, Iff.rfl⟩

theorem trans (h : s.Kept slot t) (k : t.Kept slot u) : s.Kept slot u := ⟨h.ahead.trans k.ahead, k.cue.trans h.cue, k.mem.trans h.mem⟩

theorem of_eq (hcues : t.cues = s.cues) (hdues : t.dues = s.dues) (h : s.Ahead t) : s.Kept slot t := ⟨h, by rw [State.cue, State.cue, hcues], by rw [hdues]⟩

theorem of_worked {a : Nat} (h : s.Worked a t) (ha : slot ≠ a) : s.Kept slot t := ⟨h.ahead, h.cue slot ha, h.mem ha⟩

end State.Kept

/-! ### Runs of slots -/

section
variable {s : State} {op : State → Nat → State} {l : List Nat} {slot : Nat}

/-- A run of work on other slots. -/
theorem foldl_kept (hop : ∀ (u : State) a, u.Worked a (op u a)) (h : slot ∉ l) (s : State) : s.Kept slot (l.foldl op s) := by
  induction l generalizing s with
  | nil => exact State.Kept.refl slot s
  | cons a l ih =>
    obtain ⟨ha, hl⟩ := not_or.mp fun hm => h (List.mem_cons.mpr hm)
    exact (State.Kept.of_worked (hop s a) ha).trans (ih hl _)

/-- A run of work on each of some slots once: a slot of it is worked on where nothing has worked on it, and then is left. -/
theorem foldl_reach (hop : ∀ (u : State) a, u.Worked a (op u a)) (hl : l.Nodup) (h : slot ∈ l) (s : State) :
    ∃ u, s.Kept slot u ∧ (op u slot).Kept slot (l.foldl op s) := by
  induction l generalizing s with
  | nil => cases h
  | cons a l ih =>
    obtain ⟨ha, hl⟩ := List.nodup_cons.mp hl
    rcases eq_or_ne slot a with rfl | hne
    · exact ⟨s, State.Kept.refl slot s, foldl_kept hop ha _⟩
    · obtain ⟨u, hu, ht⟩ := ih hl ((List.mem_cons.mp h).resolve_left hne) (op s a)
      exact ⟨u, (State.Kept.of_worked (hop s a) hne).trans hu, ht⟩

theorem foldl_nodup (hop : ∀ (u : State) a, u.Worked a (op u a)) (hs : s.dues.Nodup) : (l.foldl op s).dues.Nodup := by
  induction l generalizing s with
  | nil => exact hs
  | cons a l ih => exact ih ((hop s a).nodup hs)

theorem foldl_told (hop : ∀ (u : State) a, u.Worked a (op u a)) : s.Told (l.foldl op s) := by
  induction l generalizing s with
  | nil => exact State.Told.of_eq rfl
  | cons a l ih => exact (hop s a).told.trans ih

theorem foldl_ahead (hop : ∀ (u : State) a, u.Worked a (op u a)) : s.Ahead (l.foldl op s) := State.Ahead.foldl (fun u a => (hop u a).ahead) l s

/-- Work on cues that are not of a lane leaves the lane. -/
theorem foldl_lane (hop : ∀ (u : State) a, u.Worked a (op u a)) {j : Nat} (h : ∀ a ∈ l, ∀ c, s.cue a = some c → c.anchor.lane? ≠ some j) :
    (l.foldl op s).lane j = s.lane j := by
  induction l generalizing s with
  | nil => rfl
  | cons a l ih =>
    have ha := h a List.mem_cons_self
    refine (ih fun b hb c hc => ?_).trans ((hop s a).lane j ha)
    rcases eq_or_ne b a with rfl | hne
    · obtain ⟨e, he, hce⟩ := (hop s b).anchor c hc
      rw [hce]; exact ha e he
    · rw [(hop s a).cue b hne] at hc
      exact h b (List.mem_cons_of_mem a hb) c hc

end

/-! ### What is said of a cue holds of later states that spare it -/

/-- The slot's cue and its place in the due list are as they were, and so is all that the dues of an anchor are found from. -/
structure State.Spares (a : Anchor) (slot : Nat) (s t : State) : Prop where
  near : s.Near a t
  sticky : ∀ i, a.lane? = some i → (s.lane i).sticky.inexact = true → (t.lane i).sticky.inexact = true
  flag : ∀ f, (s.flag f).set = true → (t.flag f).set = true
  cue : t.cue slot = s.cue slot
  mem : slot ∈ t.dues ↔ slot ∈ s.dues

theorem State.Kept.spares {s t : State} {slot : Nat} (h : s.Kept slot t) (a : Anchor) : s.Spares a slot t :=
  ⟨h.ahead.alike.near a, fun i _ => h.ahead.sticky i, h.ahead.flag, h.cue, h.mem⟩

section
variable {s t : State} {slot : Nat} {c : Cue} {a : Anchor} {current cur : Option Int} {r x d : Int} {i : Nat}

theorem rateOk_alike (h : s.Alike t) (i : Nat) : (t.lane i).rateOk ↔ (s.lane i).rateOk := by rw [h.2 i]

theorem due_near (h : s.Near a t) : Spec.due t a current r x cur ↔ Spec.due s a current r x cur := by
  have hlane := h.2
  unfold Spec.due
  cases a with
  | absolute pt => exact Iff.rfl
  | label i p o => dsimp only; rw [hlane i rfl]; exact Iff.rfl
  | sample i p => dsimp only; rw [hlane i rfl]; exact Iff.rfl

theorem due_alike (h : s.Alike t) : Spec.due t a current r x cur ↔ Spec.due s a current r x cur := due_near (h.near a)

theorem fired_spared (h : s.Spares c.anchor slot t) (hs : Spec.fired s slot c d) : Spec.fired t slot c d := by
  have hnear := h.near
  have hrestaged : s.Near (Spec.restaged c).anchor t := by rw [restaged_eq, c.restaged_line.2.2.2.1]; exact hnear
  unfold Spec.fired at hs ⊢
  simp only [h.cue, h.mem, paced_near hrestaged, dueAfter_near hrestaged, resumes_near hrestaged, whole_near hnear, masked_near hnear, hnear.1]
  obtain ⟨hone, hpassed, hres⟩ := hs
  refine ⟨hone, hpassed, fun n x cur hn hr => ?_⟩
  obtain ⟨hclass, hfound, hstop⟩ := hres n x cur hn hr
  refine ⟨hclass, fun hb hgo hx => ?_, fun hb hgo => ?_⟩
  · obtain ⟨h1, h2, h3⟩ := hfound hb hgo hx
    exact ⟨h1, h2, fun i hi hl hp => h.sticky i hl (h3 i hi hl hp)⟩
  · obtain ⟨h1, h2, h3⟩ := hstop hb hgo
    exact ⟨h1, h2, h.flag _ h3⟩

theorem late_spared (h : s.Spares c.anchor slot t) (hs : Spec.late s slot c d) : Spec.late t slot c d := by
  obtain ⟨hdrop, hfire⟩ := hs
  refine ⟨fun hd => ?_, fun hd => ?_⟩
  · obtain ⟨h1, h2, h3⟩ := hdrop hd
    exact ⟨h.cue.trans h1, fun hm => h2 (h.mem.mp hm), h.flag _ h3⟩
  · obtain ⟨h1, h2, h3⟩ := hfire hd
    exact ⟨h.flag _ h1, fun hf => h.flag _ (h2 hf), fired_spared h h3⟩

theorem judged_spared (h : s.Spares c.anchor slot t) (hs : Spec.judged s slot c) : Spec.judged t slot c := fun d hd => by
  obtain ⟨hin, hlate⟩ := hs d hd
  rw [h.near.1, h.cue, h.mem]
  exact ⟨hin, fun hx => late_spared h (hlate hx)⟩

theorem refound_spared (h : s.Spares c.anchor slot t) (hs : Spec.refound s slot c) : Spec.refound t slot c := by
  have hnear := h.near
  unfold Spec.refound at hs ⊢
  simp only [hnear.1, due_near hnear, whole_near hnear, masked_near hnear, h.cue, h.mem]
  intro x cur hdue h0 hx
  obtain ⟨hgo, hstop⟩ := hs x cur hdue h0 hx
  refine ⟨fun hc => ⟨(hgo hc).1, fun hp => late_spared h ((hgo hc).2 hp)⟩, fun hw hm => ?_⟩
  obtain ⟨h1, h2, h3⟩ := hstop hw hm
  exact ⟨h1, h2, h.flag _ h3⟩

theorem late_kept (h : s.Kept slot t) (hs : Spec.late s slot c d) : Spec.late t slot c d := late_spared (h.spares _) hs

theorem judged_kept (h : s.Kept slot t) (hs : Spec.judged s slot c) : Spec.judged t slot c := judged_spared (h.spares _) hs

theorem refound_kept (h : s.Kept slot t) (hs : Spec.refound s slot c) : Spec.refound t slot c := refound_spared (h.spares _) hs

end

/-! ### Late cues, dues set, and cues found again -/

section
variable {s : State} {slot : Nat} {c : Cue}

theorem cue_dropCue_same (hc : s.cue slot = some c) :
    (dropCue slot s).cue slot = none ∧ slot ∉ (dropCue slot s).dues ∧ ((dropCue slot s).flag .cueDropped).set = true := by
  have hlt := State.cue_lt hc
  have hdrop : dropCue slot s = reportGone c.owner false (raise .cueDropped (freeSlot slot s)) := by rw [dropCue, hc]
  have hfreed : (freeSlot slot s).cue slot = none ∧ slot ∉ (freeSlot slot s).dues := by
    rw [freeSlot_scheduled hc]
    exact ⟨cue_scheduled hlt, not_mem_filter _ _⟩
  rw [hdrop]
  have hrep : (raise .cueDropped (freeSlot slot s)).Worked 64 (reportGone c.owner false (raise .cueDropped (freeSlot slot s))) := reportGone_worked 64 _ _
  have hne : slot ≠ 64 := by omega
  refine ⟨(hrep.cue slot hne).trans hfreed.1, fun hm => hfreed.2 ((hrep.mem hne).mp hm), hrep.ahead.flag _ ?_⟩
  rw [flag_raise, if_pos rfl]

/-- A late cue, handled (R152). -/
theorem late_lateCue {d : Nat} (hc : s.cue slot = some c) (hd : c.due = some d) : Spec.late (lateCue slot s) slot c d := by
  have hlate : lateCue slot s = if c.drop then dropCue slot s else fireCue slot (raise .cueLate s) := by rw [lateCue, hc]
  refine ⟨fun hdrop => ?_, fun hdrop => ?_⟩
  · rw [hlate, if_pos hdrop]; exact cue_dropCue_same hc
  · rw [hlate, if_neg (by rw [hdrop]; decide)]
    obtain ⟨hfired, -, -, hflag, -⟩ := fires_fireCue (s := raise .cueLate s) hc hd
    have hahead := fireCue_ahead (raise .cueLate s) slot
    refine ⟨hahead.flag _ (by rw [flag_raise, if_pos rfl]), fun hf => ?_, hfired⟩
    rw [hflag .cueFired (by decide) (by decide), if_pos hf, flag_raise, if_pos rfl]

/-- A due set: in time, or late (R145, R152). -/
theorem setDue_spec (hlt : slot < 64) (c : Cue) (x : Nat) (s : State) :
    (s.tb.pt ≤ x → (setDue slot c x s).cue slot = some { c with due := some x } ∧ slot ∈ (setDue slot c x s).dues)
      ∧ (x < s.tb.pt → Spec.late (setDue slot c x s) slot { c with due := some x } x) := by
  have hcue : (enterDues slot c x s).cue slot = some { c with due := some x } := cue_scheduled hlt
  have hset : setDue slot c x s = if x < s.tb.pt then lateCue slot (enterDues slot c x s) else enterDues slot c x s := rfl
  refine ⟨fun hx => ?_, fun hx => ?_⟩
  · rw [hset, if_neg (by omega)]
    exact ⟨hcue, mem_placeDue _ _ _ _⟩
  · rw [hset, if_pos hx]
    exact late_lateCue hcue rfl

/-- A cue found again (R155). -/
theorem refound_recomputeCue {i : Nat} (hc : s.cue slot = some c) (hi : c.anchor.lane? = some i) (hr : (s.lane i).rateOk) :
    Spec.refound (recomputeCue slot s) slot c := by
  have hlt := State.cue_lt hc
  have halike := (recomputeCue_ahead s slot).alike
  obtain ⟨hdone, hstopped⟩ := recomputeCue_eq hc
  unfold Spec.refound
  simp only [halike.1, due_alike halike, whole_alike halike, masked_alike halike]
  intro x cur hdue h0 hx
  have hfound := dueAgainst_of_due hi hr hdue
  have hrange : decide (x < 0 ∨ 2 ^ 64 ≤ x) = false := decide_eq_false (by omega)
  have hclamp : (Spec.clampPt x).toNat = x.toNat := by rw [Spec.clampPt]; omega
  have htail : (((s.lane i).judge (decide (x < 0 ∨ 2 ^ 64 ≤ x)) .range (Spec.clampPt x).toNat).bind fun t => .done .none ⟨t, cur⟩)
      = .done .none (⟨x.toNat, cur⟩ : Found) := by rw [hrange, hclamp]; rfl
  have hmask : Spec.masked s c.anchor .inexact ↔ (s.lane i).masks.has .inexact = true := by simp [Spec.masked, hi]
  refine ⟨fun hgo => ?_, fun hw hm => ?_⟩
  · obtain ⟨m, hm⟩ : ∃ m, s.dueAgainst c.anchor c.current s.tb.pt = .done m ⟨x.toNat, cur⟩ := by
      rw [hfound]
      cases hw : Spec.whole s c.anchor c.current x with
      | true => exact ⟨_, (Conv.none_bind ..).trans htail⟩
      | false =>
        have hmasked := hmask.mp (hgo.resolve_left (by rw [hw]; decide))
        rw [Bool.not_false, Lane.judge, if_pos rfl, Lane.meet, if_pos hmasked, Conv.bind]
        simp only [htail]
        exact ⟨_, rfl⟩
    rw [hdone m _ hm]
    have hset := setDue_spec hlt { c with state := if c.state = .suspended then .waiting else c.state, current := cur } x.toNat (stickOpt c.anchor.lane? m s)
    rw [((Noted.refl.stickOpt c.anchor.lane? m : Noted s _).keeps).2.2.2.2.1] at hset
    obtain ⟨hin, hlate⟩ := hset
    refine ⟨fun hp => hin (by omega), fun hp => ?_⟩
    have := hlate (by omega)
    rwa [show ((x.toNat : Nat) : Int) = x by omega] at this
  · have hun : (s.lane i).masks.has .inexact = false := by rw [hmask] at hm; simpa using hm
    have hstop : s.dueAgainst c.anchor c.current s.tb.pt = .stopped Cond.inexact.only .inexact := by
      rw [hfound]
      simp [hw, Lane.judge, Lane.meet, hun, Conv.bind]
    rw [hstopped _ _ hstop]
    exact cue_dropCue_same ((stickOpt_cue _ _ s slot).trans hc)

/-! ### The due list handled and a lane's cues found again -/

/-- The cues of the due list after late ones have been handled (R152, R153). -/
theorem judged_handleLate (hn : s.dues.Nodup) (hc : s.cue slot = some c) (hmem : slot ∈ s.dues) : Spec.judged (handleLate s) slot c := by
  intro d hd
  have hpt : (handleLate s).tb.pt = s.tb.pt := by rw [(handleLate_ahead s).alike.1]
  have hdue : s.dueOf slot = d := by rw [State.dueOf, hc, Option.bind_some, hd]; rfl
  rw [hpt]
  refine ⟨fun hp => ?_, fun hp => ?_⟩
  · have hkept := foldl_kept (op := fun s slot => lateCue slot s) (fun u a => lateCue_worked a u)
      (l := s.dues.filter fun slot => decide (s.dueOf slot < s.tb.pt)) (slot := slot) (by simp [hdue]; omega) s
    exact ⟨hkept.cue.trans hc, hkept.mem.mpr hmem⟩
  · obtain ⟨u, hu, ht⟩ := foldl_reach (op := fun s slot => lateCue slot s) (fun u a => lateCue_worked a u)
      (l := s.dues.filter fun slot => decide (s.dueOf slot < s.tb.pt)) (slot := slot) (hn.filter _) (by simp [hmem, hdue]; omega) s
    exact late_kept ht (late_lateCue (hu.cue.trans hc) hd)

/-- A slot out of the due list is left by the handling of late cues. -/
theorem handleLate_kept (hmem : slot ∉ s.dues) : s.Kept slot (handleLate s) :=
  foldl_kept (op := fun s slot => lateCue slot s) (fun u a => lateCue_worked a u) (fun h => hmem (List.mem_of_mem_filter h)) s

/-- The cues found again on a lane, each once. -/
theorem toRecompute_nodup (h : s.duesOk) (i : Nat) : (s.cuesToRecompute i).Nodup := by
  obtain ⟨hn, -, hlisted, -⟩ := h
  refine List.Nodup.append (hn.filter _) (cuesWhere_nodup s _) fun a ha hb => ?_
  obtain ⟨c, hc, hl⟩ := (Option.any_eq_true _ _).mp (hlisted a (List.mem_of_mem_filter ha))
  obtain ⟨e, he, hp⟩ := mem_cuesWhere hb
  rw [hc] at he; cases he
  have hs : c.state = .suspended := of_decide_eq_true (Bool.and_eq_true_iff.mp hp).2
  simp [Cue.listed, hs] at hl

theorem mem_toRecompute_iff {i : Nat} (hc : s.cue slot = some c) :
    slot ∈ s.cuesToRecompute i ↔ c.on i = true ∧ (slot ∈ s.dues ∨ c.state = .suspended) := by
  have hlt := State.cue_lt hc
  simp only [State.cuesToRecompute, State.cuesWhere, List.mem_append, List.mem_filter, hc, Option.any_some, slots, List.mem_range, hlt, true_and,
    Bool.and_eq_true, decide_eq_true_eq]
  tauto

/-- The cues of a lane, recomputed from a state whose cues and due list are those of `s` (R155). -/
theorem recomputed_recomputeLane {v : State} (hcues : v.cues = s.cues) (hdues : v.dues = s.dues) (i : Nat) :
    Spec.recomputed s (recomputeLane i v) i := by
  have hcue : ∀ j, v.cue j = s.cue j := fun j => by rw [State.cue, hcues]; rfl
  have hlist : v.cuesToRecompute i = s.cuesToRecompute i := by
    unfold State.cuesToRecompute State.cuesWhere
    simp only [hdues, hcue]
  refine ⟨fun slot hlt hoff => ?_, fun hok slot hlt c hc hon => ⟨fun hmem hst => ?_, fun hgo hr => ?_⟩⟩
  · refine (foldl_kept (op := fun s slot => recomputeCue slot s) (fun u a => recomputeCue_worked a u) (fun hm => ?_) v).cue.trans (hcue slot)
    rw [hlist] at hm
    cases hc : s.cue slot with
    | none =>
      have : ∀ a ∈ s.cuesToRecompute i, ∃ c, s.cue a = some c := fun a ha => by
        rcases List.mem_append.mp ha with ha | ha
        · exact ((Option.any_eq_true _ _).mp (List.mem_filter.mp ha).2).imp fun _ h => h.1
        · exact (mem_cuesWhere ha).imp fun _ h => h.1
      obtain ⟨c, hc'⟩ := this slot hm
      rw [hc] at hc'; cases hc'
    | some c =>
      have := ((mem_toRecompute_iff hc).mp hm).1
      rw [hoff c hc] at this; cases this
  · refine (foldl_kept (op := fun s slot => recomputeCue slot s) (fun u a => recomputeCue_worked a u) (fun hm => ?_) v).cue.trans ((hcue slot).trans hc)
    rw [hlist] at hm
    exact ((mem_toRecompute_iff hc).mp hm).2.elim hmem hst
  · obtain ⟨u, hu, ht⟩ := foldl_reach (op := fun s slot => recomputeCue slot s) (fun u a => recomputeCue_worked a u) (l := v.cuesToRecompute i)
      (slot := slot) (hlist ▸ toRecompute_nodup hok i) (hlist ▸ (mem_toRecompute_iff hc).mpr ⟨hon, hgo⟩) v
    refine refound_kept ht (refound_recomputeCue (hu.cue.trans ((hcue slot).trans hc)) (of_decide_eq_true hon) ?_)
    exact (rateOk_alike hu.ahead.alike i).mpr ((rateOk_alike (State.Ahead.foldl (fun u a => recomputeCue_ahead u a) _ v).alike i).mp hr)

end

end Sys2Proof.Machine
end

section
/-! Recomputation of a lane's cues, mapping changes, LANE_JAM and LANE_BOUNDARY (sections 5.3, 5.5, 7.7 and 8.7). -/

namespace Sys2Proof.Machine

/-! ### The nearest value -/

/-- The nearest value modulo `n`, and the range it lies in. -/
theorem nearestMod_spec {n : Nat} (hn : 0 < n) (v : Int) :
    (∃ q : Int, nearestMod v n = v + q * n) ∧ -(n / 2 : Nat) ≤ nearestMod v n ∧ nearestMod v n ≤ n - 1 - (n / 2 : Nat) := by
  unfold nearestMod
  generalize ((n / 2 : Nat) : Int) = h
  have hpos : (0 : Int) < n := by exact_mod_cast hn
  have hlo := Int.emod_nonneg (v + h) hpos.ne'
  have hhi := Int.emod_lt_of_pos (v + h) hpos
  refine ⟨⟨-((v + h) / n), ?_⟩, by omega, by omega⟩
  have := Int.emod_add_mul_ediv (v + h) n
  linarith

/-- What is noted leaves all that a cue's operation leaves. -/
theorem Noted.touch {s u : State} (h : Noted s u) : CueTouch s u := by
  induction h with
  | refl => exact CueTouch.refl s
  | raise f _ ih => exact ih.trans (raise_touch _ f)
  | stick i m _ ih => exact ih.trans (stick_touch _ i m)

/-! ### A lane's cues recomputed, and a mapping change -/

section
variable (i : Nat) (delta : Int) (v : State)

theorem recomputeLane_ahead : v.Ahead (recomputeLane i v) := State.Ahead.foldl (fun u a => recomputeCue_ahead u a) _ v

theorem recomputeLane_told : v.Told (recomputeLane i v) :=
  foldl_told (op := fun s slot => recomputeCue slot s) fun u a => recomputeCue_worked a u

/-- The cues recomputed are those of the lane. -/
theorem on_of_toRecompute {s : State} {i slot : Nat} {c : Cue} (h : slot ∈ s.cuesToRecompute i) (hc : s.cue slot = some c) : c.anchor.lane? = some i :=
  of_decide_eq_true ((mem_toRecompute_iff hc).mp h).1

variable {i} in
theorem lane_recomputeLane_ne {j : Nat} (h : j ≠ i) : (recomputeLane i v).lane j = v.lane j :=
  foldl_lane (op := fun s slot => recomputeCue slot s) (fun u a => recomputeCue_worked a u) fun a ha c hc hj => by
    rw [on_of_toRecompute ha hc] at hj
    exact h (Option.some.inj hj).symm

theorem mappingChange_alike : v.Alike (mappingChange i delta v) :=
  State.Alike.trans (t := devicesShift i (delta * (v.lane i).period) v) (State.Ahead.of_eq rfl rfl rfl).alike (recomputeLane_ahead i _).alike

variable {i} in
theorem lane_mappingChange_ne {j : Nat} (h : j ≠ i) : (mappingChange i delta v).lane j = v.lane j := lane_recomputeLane_ne _ h

theorem flag_mappingChange {f : Flag} (h : (v.flag f).set = true) : ((mappingChange i delta v).flag f).set = true :=
  (recomputeLane_ahead i _).flag f h

variable {v} in
/-- What a mapping change leaves of a device: shifted, if it follows the lane, and perhaps told of its cue (R92, R136). -/
theorem mappingChange_device {n : Nat} {d : Device} (hd : v.device n = some d) :
    ∃ e, (mappingChange i delta v).device n = some e
      ∧ (d.lane = i → e.offsetEst = d.offsetEst.map (· + delta * (v.lane i).period)
          ∧ e.ring = d.ring.map fun o => { o with offset := o.offset + delta * (v.lane i).period })
      ∧ (d.lane ≠ i → e.offsetEst = d.offsetEst ∧ e.ring = d.ring) := by
  have hshift : (devicesShift i (delta * (v.lane i).period) v).device n = some (d.shifted i (delta * (v.lane i).period)) := by
    rw [State.device, devicesShift, mapDevices, Bank.get_mapSome, show v.devices.get n none = some d from hd]; rfl
  obtain ⟨e, he, hring, hest, -⟩ := (recomputeLane_told i (devicesShift i (delta * (v.lane i).period) v)).keeps hshift
  refine ⟨e, he, fun hl => ?_, fun hl => ?_⟩
  · rw [hring, hest, Device.shifted, if_pos hl]; exact ⟨rfl, rfl⟩
  · rw [hring, hest, Device.shifted, if_neg hl]; exact ⟨rfl, rfl⟩

variable {v} in
theorem mappingChange_device_none {n : Nat} (hd : v.device n = none) : (mappingChange i delta v).device n = none := by
  refine ((recomputeLane_told i (devicesShift i (delta * (v.lane i).period) v)) n).1 ?_
  rw [State.device, devicesShift, mapDevices, Bank.get_mapSome, show v.devices.get n none = none from hd]; rfl

/-- The cues of a lane after a mapping change. -/
theorem recomputed_mappingChange {s : State} (hcues : v.cues = s.cues) (hdues : v.dues = s.dues) :
    Spec.recomputed s (mappingChange i delta v) i :=
  recomputed_recomputeLane (v := devicesShift i (delta * (v.lane i).period) v) hcues hdues i

end

/-! ### LANE_JAM -/

section
variable {s : State} {lane device : Nat} {d : Device} {o : Int} {m : Mapping}

theorem Lane.jamFrames_judge (l : Lane) (o : Int) : l.jamFrames o = l.judge (decide (o % l.period ≠ 0)) .inexact (-l.rounding.apply o l.period) := by
  unfold Lane.jamFrames Lane.judge
  by_cases h : o % l.period = 0 <;> simp [h]

/-- What a LANE_JAM of `frames` whole frames does and answers (R93, R94). -/
def jamTaken (lane device : Nat) (frames : Int) (s : State) : State :=
  let delta := nearestMod frames (s.lane lane).nDay
  let t := if delta = 0 then s else mappingChange lane delta (s.setLane lane ((s.lane lane).jammed delta))
  Spec.ok t [.index delta, .word (t.lane lane).map.c0, .ticks (((t.device device).bind Device.offsetEst).getD 0)]

/-- LANE_JAM, once its checks have passed. -/
theorem exec_laneJam (h : s.resetLow = false) (hlane : lane ≤ 15) (hdev : device ≤ 31) (hd : s.device device = some d) (hfollow : d.lane = lane)
    (hrun : (s.lane lane).state = .running) (ho : d.offsetEst = some o) :
    exec (.laneJam lane device) s
      = .next (resolved lane (fun _ frames => jamTaken lane device frames)
          ((s.lane lane).judge (decide (o % (s.lane lane).period ≠ 0)) .inexact (-(s.lane lane).rounding.apply o (s.lane lane).period)) s) := by
  have hnday : ∀ m, (stick lane m s).lane lane = { s.lane lane with sticky := ((stick lane m s).lane lane).sticky } := fun m =>
    (Noted.refl.stick lane m).lane lane
  rw [exec, execLaneJam, request_live h]
  simp only [laneOk_eq hlane, hrun, hd, hfollow, ho, Option.any_some, Option.bind_some, Bool.not_true, Bool.false_eq_true, false_or, if_neg (by omega : ¬ 32 ≤ device),
    beq_self_eq_true, not_true_eq_false, or_false, if_false, reduceCtorEq, ne_eq, Lane.jamFrames_judge]
  unfold Lane.judge Lane.meet resolved
  split_ifs with hpart hmask
  · dsimp only
    rw [jamTaken, hnday]; rfl
  · rfl
  · dsimp only
    rw [jamTaken, hnday]; rfl

/-- A jam taken on a state that has only noted a condition since `s` (R94, R136). -/
theorem jamTaken_spec {u : State} {frames : Int} (hu : Noted s u) (hother : ∀ j, j ≠ lane → u.lane j = s.lane j) (hlane : lane ≤ 15)
    (hd : s.device device = some d) (hfollow : d.lane = lane) (ho : d.offsetEst = some o) (hm : (s.lane lane).mapping = some m)
    (hr : (s.lane lane).rateOk) :
    let l := s.lane lane
    ∃ delta : Int, (∃ q : Int, delta = frames + q * l.nDay) ∧ -(l.nDay / 2 : Nat) ≤ delta ∧ delta ≤ l.nDay - 1 - (l.nDay / 2 : Nat)
      ∧ (delta = 0 → jamTaken lane device frames u = Spec.ok u [.index 0, .word m.c0, .ticks o])
      ∧ (delta ≠ 0 →
          let c := ((m.c0 + delta) % l.nDay).toNat
          ∃ t, jamTaken lane device frames u = Spec.ok t [.index delta, .word c, .ticks (o + delta * l.period)]
            ∧ t = { s with
                lanes := t.lanes, devices := t.devices, cues := t.cues, dues := t.dues, lines := t.lines, attn := t.attn }
            ∧ (∀ j < 16, j ≠ lane → t.lane j = s.lane j) ∧ Spec.recomputed s t lane
            ∧ t.lane lane = { l with mapping := some ⟨m.k0, c⟩, sticky := (t.lane lane).sticky }
            ∧ ∀ n < 32, ∀ x, s.device n = some x → x.lane = lane →
                ∃ x', t.device n = some x' ∧ x'.offsetEst = x.offsetEst.map (fun v => v + delta * l.period)
                  ∧ x'.ring = x.ring.map fun v => { v with offset := v.offset + delta * l.period }) := by
  intro l
  obtain ⟨hcues, hdues, -, hdevices, htb, -⟩ := hu.keeps
  have hl := hu.lane lane
  have hnday : (u.lane lane).nDay = l.nDay := by rw [hl]; rfl
  have hdev : ∀ n, u.device n = s.device n := fun n => by rw [State.device, hdevices]; rfl
  have hmap : l.map = m := by change l.mapping.getD _ = m; rw [hm]; rfl
  obtain ⟨hq, hlo, hhi⟩ := nearestMod_spec hr.nDay_pos frames
  obtain ⟨delta, hdelta⟩ : ∃ delta, delta = nearestMod frames l.nDay := ⟨_, rfl⟩
  rw [← hdelta] at hq hlo hhi
  refine ⟨delta, hq, hlo, hhi, fun hzero => ?_, fun hne => ?_⟩
  · have hmap' : (u.lane lane).map = m := by rw [hl]; exact hmap
    simp only [jamTaken, hnday, ← hdelta, hzero, if_true, hmap', hdev, hd, Option.bind_some, ho, Option.getD_some]
  · intro c
    obtain ⟨v, hv⟩ : ∃ v, v = u.setLane lane ((u.lane lane).jammed delta) := ⟨_, rfl⟩
    obtain ⟨t, ht⟩ : ∃ t, t = mappingChange lane delta v := ⟨_, rfl⟩
    have hjam : (u.lane lane).jammed delta = { l with mapping := some ⟨m.k0, c⟩, sticky := (u.lane lane).sticky } := by
      rw [Lane.jammed, hl]
      change { l with mapping := some ⟨l.map.k0, wrap (l.map.c0 + delta) l.nDay⟩, sticky := _ } = _
      rw [hmap]; rfl
    have hvl : v.lane lane = { l with mapping := some ⟨m.k0, c⟩, sticky := (u.lane lane).sticky } := by
      rw [hv, State.lane_setLane_same (by omega), hjam]
    have hlaneAfter : t.lane lane = { l with mapping := some ⟨m.k0, c⟩, sticky := (t.lane lane).sticky } := by
      have := (mappingChange_alike lane delta v).2 lane
      rw [← ht, hvl] at this
      exact this
    have hshifted : ∀ n x, s.device n = some x → x.lane = lane → ∃ x', t.device n = some x' ∧ x'.offsetEst = x.offsetEst.map (fun v => v + delta * l.period)
        ∧ x'.ring = x.ring.map fun v => { v with offset := v.offset + delta * l.period } := fun n x hx hxl => by
      obtain ⟨e, he, hfol, -⟩ := mappingChange_device (v := v) lane delta (n := n) (d := x) (by rw [hv]; exact (hdev n).trans hx)
      rw [hvl] at hfol
      exact ⟨e, by rw [ht]; exact he, hfol hxl⟩
    refine ⟨t, ?_, ?_, fun j _ hj => ?_, ?_, hlaneAfter, fun n _ => hshifted n⟩
    · obtain ⟨x, hx, hest, -⟩ := hshifted device d hd hfollow
      have hmapped : (t.lane lane).map = ⟨m.k0, c⟩ := by rw [hlaneAfter]; rfl
      simp only [jamTaken, hnday, ← hdelta, if_neg hne, ← hv, ← ht, hmapped, hx, Option.bind_some, hest, ho, Option.map_some, Option.getD_some]
    · have hset : CueTouch u v := by rw [hv]; rfl
      rw [ht]
      exact (hu.touch.trans hset).trans (mappingChange_touch v lane delta)
    · rw [ht, lane_mappingChange_ne _ _ hj, hv, State.lane_setLane_ne hj]; exact hother j hj
    · rw [ht]
      exact recomputed_mappingChange lane delta v (by rw [hv]; exact hcues) (by rw [hv]; exact hdues)

end

/-- Settles O39: the refusals in their order, then the rounded frames resolved. -/
theorem jamsMoveTheMapping : Obligations.JamsMoveTheMapping := by
  unfold Obligations.JamsMoveTheMapping
  intro s lane device h
  refine ⟨fun hbad => ?_, fun hlane hdev hno => ?_, fun d hlane hdev hd hfollow hst => ⟨fun hrun => ?_, fun hrun hest => ?_, fun o m hrun ho hm hr _ => ?_⟩⟩
  · rw [exec, execLaneJam, request_live h]
    have : (!laneOk lane) = true ∨ 32 ≤ device := by
      rcases hbad with hb | hb
      · exact Or.inl (by rw [laneOk_eq_false hb]; rfl)
      · exact Or.inr hb
    simp only [if_pos this]; rfl
  · rw [exec, execLaneJam, request_live h]
    have hgone : (s.lane lane).state = .free ∨ ¬ (s.device device).any (fun d => d.lane == lane) := by
      refine hno.imp_right fun hd => ?_
      cases hx : s.device device with
      | none => simp
      | some x => simpa using hd x hx
    simp only [laneOk_eq hlane, Bool.not_true, Bool.false_eq_true, false_or, if_neg (by omega : ¬ 32 ≤ device), if_pos hgone]; rfl
  · rw [exec, execLaneJam, request_live h]
    simp only [laneOk_eq hlane, hd, hfollow, Option.any_some, Bool.not_true, Bool.false_eq_true, false_or, if_neg (by omega : ¬ 32 ≤ device),
      beq_self_eq_true, not_true_eq_false, or_false, if_neg hst, if_pos hrun]; rfl
  · rw [exec, execLaneJam, request_live h]
    simp only [laneOk_eq hlane, hd, hfollow, hest, Option.any_some, Bool.not_true, Bool.false_eq_true, false_or, if_neg (by omega : ¬ 32 ≤ device),
      beq_self_eq_true, not_true_eq_false, or_false, hrun, ne_eq, if_false, Option.bind_some]; rfl
  · rw [exec_laneJam h hlane hdev hd hfollow hrun ho]
    by_cases hpart : o % (s.lane lane).period = 0
    · refine ⟨fun hne => absurd hpart hne, fun _ => ?_⟩
      rw [if_pos hpart, Lane.judge, if_neg (by simpa using hpart), resolved_done]
      obtain ⟨delta, hq, hlo, hhi, hzero, hmove⟩ := jamTaken_spec (frames := -(s.lane lane).rounding.apply o (s.lane lane).period) (Noted.refl (s := s))
        (fun _ _ => rfl) hlane hd hfollow ho hm hr
      refine ⟨delta, hq, hlo, hhi, fun hz => by rw [hzero hz], fun hne => ?_⟩
      obtain ⟨t, ht, hrest⟩ := hmove hne
      exact ⟨t, by rw [ht], hrest⟩
    · rw [Lane.judge, if_pos (by simpa using hpart), Lane.meet]
      refine ⟨fun _ hmask => ?_, fun hmask => ?_⟩
      · rw [if_neg (by rw [show (s.lane lane).masks.has .inexact = false from hmask]; decide), resolved, stick_only]; rfl
      · have hmasked : (s.lane lane).masks.has .inexact = true := hmask.resolve_left hpart
        rw [if_pos hmasked, if_neg hpart, resolved, stick_only]
        obtain ⟨delta, hq, hlo, hhi, hzero, hmove⟩ := jamTaken_spec (frames := -(s.lane lane).rounding.apply o (s.lane lane).period)
          (u := Spec.stuck s lane .inexact) (by rw [← stick_only]; exact Noted.refl.stick _ _)
          (fun j hj => by rw [← stick_only]; exact lane_stickOpt_ne (i := some lane) (fun h => hj (Option.some.inj h).symm) _ s) hlane hd hfollow ho hm hr
        refine ⟨delta, hq, hlo, hhi, fun hz => by rw [hzero hz], fun hne => ?_⟩
        obtain ⟨t, ht, hrest⟩ := hmove hne
        exact ⟨t, by rw [ht], hrest⟩

end Sys2Proof.Machine
end

section
/-! Boundaries: what one makes of its lane, of the lane's outputs, followers and cues, and LANE_BOUNDARY (R83 to R85, R91, R92, R102). -/

namespace Sys2Proof.Machine

/-! ### Latching -/

/-- A lane's boundary latched, with the outputs assigned to it judged. -/
def State.latchedAs (s : State) (i : Nat) (l : Lane) (p : FramePulse → Bool) : State := { s.setLane i l with fps := Spec.pulse s i p }

section
variable {s : State} {i : Nat} {l : Lane} {k : Int}

theorem Lane.latch_eq (l : Lane) (k : Int) : l.latch k = Spec.latch l k (l.latchCount k) := rfl

theorem Lane.countAt_eq (l : Lane) (k : Int) : l.countAt k = Spec.count l k := rfl

theorem latchCount_held (h : l.state = .held) {c : Nat} (hf : l.frozen = some c) : l.latchCount k = c := by
  rw [Lane.latchCount, if_pos h, hf]; rfl

theorem latchCount_unheld (h : l.state ≠ .held) : l.latchCount k = Spec.count l k := by
  rw [Lane.latchCount, if_neg h]; rfl

/-- What a lane latches, and how the outputs assigned to it pulse (R85, R102). -/
theorem latchAndPulse_eq (hi : i < 16) (l : Lane) (k : Int) (s : State) :
    latchAndPulse i k (s.setLane i l) = s.latchedAs i (l.latch k) fun f => pulsesAt l.state f.cadence (l.latchCount k) := by
  rw [latchAndPulse_setLane hi, framePulses, State.lane_setLane_same hi]
  unfold State.latchedAs Spec.pulse
  congr 2
  funext f
  by_cases hf : f.lane = some i
  · simp only [hf, FramePulse.atBoundary, if_true, decide_true, Bool.true_and]
    rfl
  · simp [hf]

theorem setLane_self (s : State) (i : Nat) : s.setLane i (s.lane i) = s := by
  rw [State.setLane, State.lane, Bank.put_get]

/-- A RUNNING or HELD lane latches, and nothing else changes but its outputs (R85, R102). -/
theorem takeBoundary_quiet (h : (s.lane i).state = .running ∨ (s.lane i).state = .held) :
    takeBoundary i k s = s.latchedAs i ((s.lane i).latch k) fun f => pulsesAt (s.lane i).state f.cadence ((s.lane i).latchCount k) := by
  have hi : i < 16 := State.lane_lt (s := s) (by rcases h with h | h <;> rw [h] <;> decide)
  have hlatch := latchAndPulse_eq hi (s.lane i) k s
  rw [setLane_self] at hlatch
  unfold takeBoundary
  rcases h with h | h <;> (dsimp only; rw [← hlatch, h])

/-- A WAITING lane starts: latched, LANE_RELEASED, and its cues found again (R84). -/
theorem takeBoundary_waiting (h : (s.lane i).state = .waiting) :
    takeBoundary i k s
      = recomputeLane i (raise .laneReleased (s.latchedAs i (((s.lane i).started k).latch k) fun f =>
          decide (Spec.count ((s.lane i).started k) k % f.cadence = 0))) := by
  have hi : i < 16 := State.lane_lt (s := s) (by rw [h]; decide)
  unfold takeBoundary
  dsimp only
  rw [h]
  dsimp only
  rw [latchAndPulse_eq hi]; rfl

/-- A RELEASING lane takes its mapping: latched, LANE_RELEASED, and a mapping change (R91, R92). -/
theorem takeBoundary_releasing (h : (s.lane i).state = .releasing) :
    takeBoundary i k s
      = mappingChange i ((s.lane i).releaseDelta k) (raise .laneReleased (s.latchedAs i (((s.lane i).released k).latch k) fun f =>
          decide (Spec.count ((s.lane i).released k) k % f.cadence = 0))) := by
  have hi : i < 16 := State.lane_lt (s := s) (by rw [h]; decide)
  unfold takeBoundary
  dsimp only
  rw [h]
  dsimp only
  rw [latchAndPulse_eq hi]; rfl

/-- The count that a lane holds at the index its mapping names. -/
theorem count_of_anchored {m : Mapping} (h : l.mapping = some m) (hk : m.k0 = k) (hc : m.c0 < l.nDay) : Spec.count l k = m.c0 := by
  subst hk
  rw [Spec.count, Lane.map, h, Option.getD_some]
  have := Int.emod_eq_of_lt (a := (m.c0 : Int)) (b := l.nDay) (by omega) (by omega)
  rw [show (m.c0 : Int) + (m.k0 - m.k0) = m.c0 by omega, this]; rfl

/-- A lane that starts, in the words of the statements (R84). -/
theorem Lane.started_begun (l : Lane) (k : Int) :
    (l.started k).latch k = Spec.begun l (if l.atNext then ⟨k, l.pendingLabel.getD 0⟩ else ⟨0, 0⟩) k := rfl

/-- A lane whose release takes effect, in the words of the statements (R91). -/
theorem Lane.released_begun (l : Lane) (k : Int) : (l.released k).latch k = Spec.begun { l with frozen := none } (l.releaseMap k) k := rfl

/-- The label count at which a release resumes (R91). -/
theorem releaseMap_of_resumesAt {c : Nat} (h : Spec.resumesAt l c) : l.releaseMap k = ⟨k, c⟩ := by
  rw [Lane.releaseMap]
  rcases h with hp | ⟨hp, f, hf, rfl⟩
  · rw [hp]; rfl
  · rw [hp, hf, Option.getD_none, Option.getD_some]
    congr 1

/-- The mapping change of a release (R91). -/
theorem releaseDelta_change (hn : 0 < l.nDay) {c : Nat} (h : l.releaseMap k = ⟨k, c⟩) : Spec.change l k c (l.releaseDelta k) := by
  obtain ⟨⟨q, hq⟩, hlo, hhi⟩ := nearestMod_spec hn (((l.releaseMap k).c0 - k) - ((l.map.c0 : Int) - l.map.k0))
  refine ⟨⟨q, ?_⟩, hlo, hhi⟩
  rw [h] at hq
  rw [Lane.releaseDelta, h]
  exact hq

theorem lane_latchedAs (hi : i < 16) (l : Lane) (p : FramePulse → Bool) : (s.latchedAs i l p).lane i = l := State.lane_setLane_same hi l

theorem lane_after {v t : State} (hv : v.lane i = l) (h : v.Alike t) : t.lane i = { l with sticky := (t.lane i).sticky } := by
  have := h.2 i
  rw [hv] at this
  exact this

theorem takeBoundary_quiet_alike (h : (s.lane i).state = .running ∨ (s.lane i).state = .held) :
    (s.latchedAs i ((s.lane i).latch k) fun f => pulsesAt (s.lane i).state f.cadence ((s.lane i).latchCount k)).Alike (takeBoundary i k s) := by
  rw [takeBoundary_quiet h]
  exact (State.Ahead.refl _).alike

theorem takeBoundary_waiting_ahead (h : (s.lane i).state = .waiting) :
    (s.latchedAs i (((s.lane i).started k).latch k) fun f => decide (Spec.count ((s.lane i).started k) k % f.cadence = 0)).Ahead (takeBoundary i k s) := by
  rw [takeBoundary_waiting h]
  exact (raise_ahead _ _).trans (recomputeLane_ahead i _)

theorem takeBoundary_releasing_alike (h : (s.lane i).state = .releasing) :
    (s.latchedAs i (((s.lane i).released k).latch k) fun f => decide (Spec.count ((s.lane i).released k) k % f.cadence = 0)).Alike (takeBoundary i k s) := by
  rw [takeBoundary_releasing h]
  exact (raise_ahead _ _).alike.trans (mappingChange_alike i _ _)

/-- What a boundary makes of its lane (R84, R85, R91). -/
theorem boundary_takeBoundary (h : (s.lane i).state ≠ .free) : Spec.boundary (s.lane i) ((takeBoundary i k s).lane i) k := by
  have hi := State.lane_lt h
  refine ⟨fun hst => ?_, fun c hst hc => ?_, fun hst hat => ?_, fun c hst hat hp => ?_, fun c hst hc => ?_⟩
  · have := lane_after (lane_latchedAs hi _ _) (takeBoundary_quiet_alike (k := k) (Or.inl hst))
    rwa [Lane.latch_eq, latchCount_unheld (by rw [hst]; decide)] at this
  · have := lane_after (lane_latchedAs hi _ _) (takeBoundary_quiet_alike (k := k) (Or.inr hst))
    rwa [Lane.latch_eq, latchCount_held hst hc] at this
  · have := lane_after (lane_latchedAs hi _ _) (takeBoundary_waiting_ahead (k := k) hst).alike
    rwa [Lane.started_begun, hat] at this
  · have := lane_after (lane_latchedAs hi _ _) (takeBoundary_waiting_ahead (k := k) hst).alike
    rwa [Lane.started_begun, hat, hp] at this
  · have := lane_after (lane_latchedAs hi _ _) (takeBoundary_releasing_alike (k := k) hst)
    rwa [Lane.released_begun, releaseMap_of_resumesAt hc] at this

end

/-! ### A boundary that announces a start or a release -/

section
variable {s v t : State} {i : Nat} {l : Lane} {p : FramePulse → Bool}

/-- What is left of the rest after a lane has latched and its cues have been found again. -/
theorem announced_spec (hi : i < 16) (hv : v = raise .laneReleased (s.latchedAs i l p)) (htouch : CueTouch v t) (hne : ∀ j, j ≠ i → t.lane j = v.lane j)
    (halike : v.Alike t) (hflag : ∀ f, (v.flag f).set = true → (t.flag f).set = true) :
    Spec.laneOnly s t i ∧ (t.flag .laneReleased).set = true ∧ t.fps = Spec.pulse s i p ∧ t.lane i = { l with sticky := (t.lane i).sticky } := by
  refine ⟨⟨?_, fun j _ hj => ?_⟩, hflag _ (by rw [hv, flag_raise, if_pos rfl]), ?_, lane_after (v := v) (by rw [hv]; exact lane_latchedAs hi l p) halike⟩
  · unfold CueTouch at htouch
    rw [htouch, hv]; rfl
  · rw [hne j hj, hv]
    exact State.lane_setLane_ne hj l
  · rw [htouch.keeps.2.2.2.2.1, hv]; rfl

variable {k : Int}

/-- A lane that starts at its boundary (R84). -/
theorem started_spec (h : (s.lane i).state = .waiting) :
    let t := takeBoundary i k s
    let r := (s.lane i).started k
    Spec.recomputed s t i ∧ Spec.laneOnly s t i ∧ (t.flag .laneReleased).set = true
      ∧ t.fps = Spec.pulse s i (fun f => decide (Spec.count r k % f.cadence = 0))
      ∧ t.lane i = { Spec.latch r k (Spec.count r k) with sticky := (t.lane i).sticky } := by
  intro t r
  have hi := State.lane_lt (s := s) (i := i) (by rw [h]; decide)
  simp only [t, takeBoundary_waiting h]
  refine ⟨recomputed_recomputeLane (s := s) (v := raise .laneReleased (s.latchedAs i _ _)) rfl rfl i, announced_spec hi rfl (recomputeLane_touch _ i) (fun j hj => lane_recomputeLane_ne _ hj)
    (recomputeLane_ahead i _).alike (recomputeLane_ahead i _).flag⟩

/-- A lane whose release takes effect at its boundary (R91). -/
theorem released_spec (h : (s.lane i).state = .releasing) :
    let t := takeBoundary i k s
    let r := (s.lane i).released k
    Spec.recomputed s t i ∧ Spec.laneOnly s t i ∧ (t.flag .laneReleased).set = true
      ∧ t.fps = Spec.pulse s i (fun f => decide (Spec.count r k % f.cadence = 0))
      ∧ t.lane i = { Spec.latch r k (Spec.count r k) with sticky := (t.lane i).sticky } := by
  intro t r
  have hi := State.lane_lt (s := s) (i := i) (by rw [h]; decide)
  simp only [t, takeBoundary_releasing h]
  exact ⟨recomputed_mappingChange (s := s) i _ (raise .laneReleased (s.latchedAs i _ _)) rfl rfl, announced_spec hi rfl (mappingChange_touch _ i _) (fun j hj => lane_mappingChange_ne _ _ hj)
    (mappingChange_alike i _ _) (fun f => flag_mappingChange i _ _)⟩

/-- The devices at a release (R92, R136). -/
theorem released_device (h : (s.lane i).state = .releasing) {n : Nat} {d : Device} (hd : s.device n = some d) :
    ∃ e, (takeBoundary i k s).device n = some e
      ∧ (d.lane = i → e.offsetEst = d.offsetEst.map (· + (s.lane i).releaseDelta k * (s.lane i).period)
          ∧ e.ring = d.ring.map fun o => { o with offset := o.offset + (s.lane i).releaseDelta k * (s.lane i).period })
      ∧ (d.lane ≠ i → e.offsetEst = d.offsetEst ∧ e.ring = d.ring) := by
  have hi := State.lane_lt (s := s) (i := i) (by rw [h]; decide)
  rw [takeBoundary_releasing h]
  have := mappingChange_device (v := raise .laneReleased (s.latchedAs i (((s.lane i).released k).latch k) fun f =>
    decide (Spec.count ((s.lane i).released k) k % f.cadence = 0))) i ((s.lane i).releaseDelta k) hd
  rw [show ∀ p, (raise .laneReleased (s.latchedAs i (((s.lane i).released k).latch k) p)).lane i = ((s.lane i).released k).latch k
    from fun p => lane_latchedAs hi _ p] at this
  exact this

end

/-- Settles O37: the event's guard, and the boundary by the lane's state. -/
theorem boundariesLatchLabels : Obligations.BoundariesLatchLabels := by
  unfold Obligations.BoundariesLatchLabels
  intro s lane k h hlane hset l hnext hfree
  have hreached : (s.lane lane).boundaryReached s.tb.pt = decide ((s.lane lane).boundaryPt k ≤ s.tb.pt) := by
    rw [Lane.boundaryReached, show (s.lane lane).next = some k from hnext, Option.any_some, decide_eq_true hfree, Bool.true_and]
  refine ⟨fun hidle => ?_, fun hpt hrun => ?_⟩
  · rw [exec, execLaneBoundary, event_idle]
    rw [hreached]
    rcases hidle with hp | hr
    · have : ¬ (s.lane lane).boundaryPt k ≤ s.tb.pt := not_le.mpr hp
      simp [this]
    · have : s.stalled = true := by rw [← Bool.not_eq_false, stalled_eq_false_iff]; exact hr
      simp [this]
  have hexec : exec (.laneBoundary lane) s = .next (takeBoundary lane k s) := by
    have hp : (s.lane lane).boundaryPt k ≤ s.tb.pt := hpt
    rw [exec, execLaneBoundary, event_live h (by simp [hset, (stalled_eq_false_iff s).mpr hrun, hreached, hp]), show (s.lane lane).next = some k from hnext]
    rfl
  rw [hexec]
  refine ⟨fun m hst hm => ?_, fun c hst hc => ?_, fun hst hat hn => ?_, fun c hst hat hp hc => ?_, fun m hst hm hn hpend => ?_⟩
  · have hcount : Spec.count (s.lane lane) k = ((m.c0 + (k - m.k0)) % l.nDay).toNat := by
      rw [Spec.count, Lane.map, show (s.lane lane).mapping = some m from hm]; rfl
    rw [takeBoundary_quiet (Or.inl hst), Lane.latch_eq, latchCount_unheld (by rw [show (s.lane lane).state = .running from hst]; decide), hcount,
      show (s.lane lane).state = .running from hst]
    simp only [pulsesAt, beq_decide]
    rfl
  · rw [takeBoundary_quiet (Or.inr hst), Lane.latch_eq, latchCount_held hst hc, show (s.lane lane).state = .held from hst]
    simp only [pulsesAt, beq_decide]
    rfl
  · obtain ⟨hrec, honly, hflag, hfps, hl⟩ := started_spec (k := k) hst
    have hcount : Spec.count ((s.lane lane).started k) k = (k % l.nDay).toNat := by
      simp [Spec.count, Lane.started, Lane.map, show (s.lane lane).atNext = false from hat, l, Lane.nDay]
    rw [hcount] at hfps hl
    refine ⟨_, rfl, honly, hrec, hflag, hfps, ?_⟩
    rw [hl]
    simp [Lane.started, show (s.lane lane).atNext = false from hat, l]
  · obtain ⟨hrec, honly, hflag, hfps, hl⟩ := started_spec (k := k) hst
    have hstart : (s.lane lane).started k = { l with state := .running, mapping := some ⟨k, c⟩, pendingLabel := none } := by
      rw [Lane.started, show (s.lane lane).atNext = true from hat, show (s.lane lane).pendingLabel = some c from hp]; rfl
    have hcount : Spec.count ((s.lane lane).started k) k = c := by rw [hstart]; exact count_of_anchored (m := ⟨k, c⟩) rfl rfl hc
    rw [hcount] at hfps hl
    rw [hstart] at hl
    exact ⟨_, rfl, honly, hrec, hflag, hfps, hl⟩
  · intro c
    obtain ⟨hrec, honly, hflag, hfps, hl⟩ := released_spec (k := k) hst
    have hmap : (s.lane lane).releaseMap k = ⟨k, c⟩ := by
      simp only [Lane.releaseMap, c, l]
      cases hp : (s.lane lane).pendingLabel <;> rfl
    have hc : c < l.nDay := by
      simp only [c]
      split
      · next x hx => exact hpend x hx
      · exact Nat.mod_lt _ hn
    have hrel : (s.lane lane).released k = { l with state := .running, mapping := some ⟨k, c⟩, pendingLabel := none, frozen := none } := by
      rw [Lane.released, hmap]
    have hcount : Spec.count ((s.lane lane).released k) k = c := by rw [hrel]; exact count_of_anchored (m := ⟨k, c⟩) rfl rfl hc
    rw [hcount] at hfps hl
    rw [hrel] at hl
    obtain ⟨hq, hlo, hhi⟩ := releaseDelta_change hn hmap
    rw [Lane.map, show (s.lane lane).mapping = some m from hm] at hq
    refine ⟨_, _, rfl, honly, hrec, hflag, hfps, hl, hq, hlo, hhi, fun n _ d hd hfollow => ?_⟩
    obtain ⟨e, he, hfol, -⟩ := released_device (k := k) hst hd
    exact ⟨e, he, hfol hfollow⟩

end Sys2Proof.Machine
end

section
/-! TIME_SET (R60 to R63, R87, R113, R137, R152, R153). -/

namespace Sys2Proof.Machine

/-! ### The value taken -/

section
variable {s : State} {time : Nat}

/-- What two announcements leave in either order, a free value perhaps drawn, they leave. -/
theorem unordered_cases {P : State → Prop} {f g : State → State} (hfg : P (g (f s))) (hgf : P (f (g s))) (hd : ∀ u, P u → P u.draw) :
    P (unordered f g s) := by
  unfold unordered
  split_ifs
  · exact hfg
  · exact hd _ hfg
  · exact hd _ hgf

theorem ratePeriod_le {k : Nat} (h : k ∈ houseCodes) : ratePeriod k ≤ 10800000 := by
  fin_cases h <;> decide

/-- The adjustment of a TIME_SET (R62). -/
theorem timeAdjust_spec (hhouse : s.tb.state = .locking ∨ s.tb.state = .locked → s.ref.house.getD 0 ∈ houseCodes) :
    let a := s.timeAdjust time
    let v : Int := time + a
    let period : Int := ratePeriod (s.ref.house.getD 0)
    (s.tb.state = .freerun ∨ s.tb.state = .holdover → a = 0)
      ∧ (s.tb.state = .locking ∨ s.tb.state = .locked →
          (∃ m : Int, v = s.tb.pt + m * period) ∧ 0 ≤ v ∧ (-period < 2 * a ∧ 2 * a ≤ period ∨ period < 2 * a ∧ v < period))
      ∧ 0 ≤ v ∧ v ≤ time + 10800000 := by
  intro a v period
  by_cases hrun : s.tb.state = .locking ∨ s.tb.state = .locked
  · have hcode := hhouse hrun
    have hpos := ratePeriod_pos hcode
    have hle := ratePeriod_le hcode
    obtain ⟨⟨k, hk⟩, hlo, hhi⟩ := phase_halfUp ((s.tb.pt : Int) - time) hpos
    have ha : a = if (time : Int) + halfUp ((s.tb.pt : Int) - time) (ratePeriod (s.ref.house.getD 0)) < 0 then
        halfUp ((s.tb.pt : Int) - time) (ratePeriod (s.ref.house.getD 0)) + ratePeriod (s.ref.house.getD 0)
      else halfUp ((s.tb.pt : Int) - time) (ratePeriod (s.ref.house.getD 0)) := by
      simp only [a]
      rcases hrun with hst | hst <;> rw [State.timeAdjust, hst] <;> rfl
    generalize halfUp ((s.tb.pt : Int) - time) (ratePeriod (s.ref.house.getD 0)) = e at *
    simp only [v, period]
    generalize ratePeriod (s.ref.house.getD 0) = p at *
    have hnot : ¬ (s.tb.state = .freerun ∨ s.tb.state = .holdover) := by rcases hrun with hst | hst <;> simp [hst]
    split_ifs at ha with hneg
    · exact ⟨fun h => absurd h hnot, fun _ => ⟨⟨1 - k, by rw [ha]; linarith⟩, by omega, by omega⟩, by omega, by omega⟩
    · exact ⟨fun h => absurd h hnot, fun _ => ⟨⟨-k, by rw [ha]; linarith⟩, by omega, by omega⟩, by omega, by omega⟩
  · have ha : a = 0 := by
      simp only [a]
      cases hst : s.tb.state <;> simp_all [State.timeAdjust]
    exact ⟨fun _ => ha, fun h => absurd h hrun, by omega, by omega⟩

/-- TIME_SET, taken (R61). -/
def State.placedAt (s : State) (v : Int) : State :=
  { s with tb := { s.tb with pt := v.toNat }, ref := s.ref.moved (v - s.tb.pt) }

theorem movePt_eq {v : Int} (h0 : 0 ≤ v) (hv : v < 2 ^ 64) (s : State) : movePt v s = s.placedAt v := by
  rw [movePt, State.putPt, if_pos ⟨h0, hv⟩]; rfl

end

/-! ### Lanes that begin to track -/

section
variable {s : State} {i : Nat} {k : Int}

theorem Lane.track_eq {l : Lane} {pt : Nat} (hlow : (l.phase : Int) + (k - 1) * l.period < pt) (hhigh : (pt : Int) ≤ l.phase + k * l.period) :
    l.track pt = { l with next := some k } := by
  rw [Lane.track, Lane.firstIndex, ceilDiv_unique (k := k) (by linarith) (by linarith)]

theorem lane_lanesTimeSet (s : State) (i : Nat) : (lanesTimeSet s).lane i = if (s.lane i).state = .waiting then (s.lane i).track s.tb.pt else s.lane i :=
  Bank.get_mapKept s.lanes (f := fun l : Lane => if l.state = .waiting then l.track s.tb.pt else l) (by rfl) i

theorem lane_lanesDiscontinuity (s : State) (i : Nat) :
    (lanesDiscontinuity s).lane i = if (s.lane i).state = .free then s.lane i else (s.lane i).track s.tb.pt :=
  Bank.get_mapKept s.lanes (f := fun l : Lane => if l.state = .free then l else l.track s.tb.pt) (by rfl) i

end

/-! ### The first TIME_SET's effect on the cues -/

section
variable {s u : State} {slot : Nat} {c : Cue}

theorem heldAbsolute_iff (c : Cue) : c.heldAbsolute = true ↔ c.state = .suspended ∧ ∃ pt, c.anchor = .absolute pt := by
  rw [Cue.heldAbsolute, Bool.and_eq_true, decide_eq_true_eq]
  cases c.anchor <;> simp [Anchor.lane?]

theorem mem_cuesWhere_of {p : Cue → Bool} (hc : s.cue slot = some c) : slot ∈ s.cuesWhere p ↔ p c = true := by
  rw [State.cuesWhere, List.mem_filter, hc, Option.any_some]
  exact ⟨fun h => h.2, fun h => ⟨List.mem_range.mpr (State.cue_lt hc), h⟩⟩

/-- A suspended ABSOLUTE cue after the first TIME_SET (R153). -/
theorem cuesTimeSet_held {pt : Nat} (hc : s.cue slot = some c) (hst : c.state = .suspended) (ha : c.anchor = .absolute pt) :
    (s.tb.pt ≤ pt → (cuesTimeSet s).cue slot = some { c with state := .waiting, due := some pt } ∧ slot ∈ (cuesTimeSet s).dues)
      ∧ (pt < s.tb.pt → Spec.late (cuesTimeSet s) slot { c with state := .waiting, due := some pt } pt) := by
  obtain ⟨u, hu, ht⟩ := foldl_reach (op := fun s slot => startAbsolute slot s) (fun u a => startAbsolute_worked a u) (l := s.cuesWhere Cue.heldAbsolute)
    (slot := slot) (cuesWhere_nodup s _) ((mem_cuesWhere_of hc).mpr ((heldAbsolute_iff c).mpr ⟨hst, pt, ha⟩)) s
  have hstart : startAbsolute slot u = setDue slot { c with state := .waiting } pt u := by
    rw [startAbsolute, hu.cue.trans hc]
    dsimp only
    rw [ha]
  obtain ⟨hin, hlate⟩ := setDue_spec (State.cue_lt hc) { c with state := .waiting } pt u
  rw [← hstart, hu.ahead.alike.1] at hin hlate
  refine ⟨fun hp => ?_, fun hp => late_kept ht (hlate hp)⟩
  obtain ⟨h1, h2⟩ := hin hp
  exact ⟨ht.cue.trans h1, ht.mem.mpr h2⟩

/-- Every other cue is left by the first TIME_SET. -/
theorem cuesTimeSet_kept (h : ∀ c, s.cue slot = some c → c.heldAbsolute = false) : s.Kept slot (cuesTimeSet s) := by
  refine foldl_kept (op := fun s slot => startAbsolute slot s) (fun u a => startAbsolute_worked a u) (fun hm => ?_) s
  obtain ⟨c, hc, hp⟩ := mem_cuesWhere hm
  rw [h c hc] at hp; cases hp

theorem lane_cuesTimeSet (j : Nat) : (cuesTimeSet s).lane j = s.lane j :=
  foldl_lane (op := fun s slot => startAbsolute slot s) (fun u a => startAbsolute_worked a u) fun a ha c hc hj => by
    obtain ⟨-, pt, hpt⟩ := (heldAbsolute_iff c).mp ((mem_cuesWhere_of hc).mp ha)
    rw [hpt] at hj; cases hj

/-- The late policy of a cue without an owner leaves the devices. -/
theorem setDue_devices (hlt : slot < 64) (hown : c.owner = none) (x : Nat) (s : State) : (setDue slot c x s).devices = s.devices := by
  have hcue : (enterDues slot c x s).cue slot = some { c with due := some x } := cue_scheduled hlt
  have hfire : ∀ u : State, (fireCue slot u).devices = u.devices := fun u => by
    obtain ⟨v, b, dues, lines, hv, ht⟩ := fireCue_noted slot u
    rw [ht]; exact hv.keeps.2.2.2.1
  unfold setDue
  dsimp only
  split_ifs
  · rw [lateCue, hcue]
    dsimp only
    split_ifs
    · rw [dropCue, hcue]
      dsimp only
      rw [hown, freeSlot_scheduled hcue]; rfl
    · rw [hfire]; rfl
  · rfl

/-- No device owns an ABSOLUTE cue, so the first TIME_SET leaves the devices (R132). -/
theorem cuesTimeSet_devices (h : s.cuesOk) : (cuesTimeSet s).devices = s.devices := by
  refine foldl_slots (op := fun s slot => startAbsolute slot s) (P := fun u => u.devices = s.devices)
    (Q := fun u a => ∀ c, u.cue a = some c → c.owner = none) (fun u a hu hq => ?_) (fun u a b hb hq c hc => ?_) (cuesWhere_nodup s _) rfl fun a ha c hc => ?_
  · cases hc : u.cue a with
    | none => rw [startAbsolute, hc]; exact hu
    | some c =>
      rw [startAbsolute, hc]
      dsimp only
      split
      · exact (setDue_devices (State.cue_lt hc) (c := { c with state := .waiting }) (hq c hc) _ u).trans hu
      · exact hu
  · rw [cue_startAbsolute_ne hb] at hc
    exact hq c hc
  · obtain ⟨-, pt, hpt⟩ := (heldAbsolute_iff c).mp ((mem_cuesWhere_of hc).mp ha)
    have hok : c.ok := h _ (Bank.get_mem _ (State.cue_lt hc) none) c hc
    obtain ⟨-, -, -, -, -, -, -, -, howner⟩ := hok
    by_contra ho
    have := (howner (Option.ne_none_iff_isSome.mp ho)).2.2.2.2
    rw [hpt] at this; cases this

end

/-! ### A time discontinuity -/

section
variable {s t : State} {slot : Nat} {c : Cue}

/-- The wildcard cues of the due list, searched anew. -/
def State.researched (s : State) : State :=
  (s.dues.filter fun slot => (s.cue slot).any fun c => c.anchor.wildcard).foldl (fun s slot => recomputeCue slot s) s

theorem cuesDiscontinuity_eq (s : State) : cuesDiscontinuity s = handleLate s.researched := rfl

theorem researched_kept (h : slot ∈ s.dues → ∀ c, s.cue slot = some c → c.anchor.wildcard = false) : s.Kept slot s.researched := by
  refine foldl_kept (op := fun s slot => recomputeCue slot s) (fun u a => recomputeCue_worked a u) (fun hm => ?_) s
  obtain ⟨hd, hw⟩ := List.mem_filter.mp hm
  obtain ⟨c, hc, hp⟩ := (Option.any_eq_true _ _).mp hw
  rw [h hd c hc] at hp; cases hp

theorem researched_nodup (h : s.dues.Nodup) : s.researched.dues.Nodup :=
  foldl_nodup (op := fun s slot => recomputeCue slot s) (fun u a => recomputeCue_worked a u) h

theorem researched_ahead (s : State) : s.Ahead s.researched := State.Ahead.foldl (fun u a => recomputeCue_ahead u a) _ s

theorem cuesDiscontinuity_ahead (s : State) : s.Ahead (cuesDiscontinuity s) := (researched_ahead s).trans (handleLate_ahead _)

theorem cuesDiscontinuity_told (s : State) : s.Told (cuesDiscontinuity s) :=
  State.Told.trans (t := s.researched) (foldl_told (op := fun s slot => recomputeCue slot s) fun u a => recomputeCue_worked a u)
    (foldl_told (op := fun s slot => lateCue slot s) fun u a => lateCue_worked a u)

/-- A cue out of the due list is left by a discontinuity. -/
theorem cuesDiscontinuity_unlisted (h : slot ∉ s.dues) : s.Kept slot (cuesDiscontinuity s) := by
  have hkept := researched_kept (s := s) (slot := slot) fun hm => absurd hm h
  exact hkept.trans (handleLate_kept fun hm => h (hkept.mem.mp hm))

/-- A cue of the due list without a wildcard keeps its due, or is late (R153). -/
theorem cuesDiscontinuity_judged (hn : s.dues.Nodup) (hc : s.cue slot = some c) (hm : slot ∈ s.dues) (hw : c.anchor.wildcard = false) :
    Spec.judged (cuesDiscontinuity s) slot c := by
  have hkept := researched_kept (s := s) (slot := slot) fun _ e he => by rw [hc] at he; cases he; exact hw
  exact judged_handleLate (researched_nodup hn) (hkept.cue.trans hc) (hkept.mem.mpr hm)

/-- A search finds no index before the PT it starts from. -/
theorem due_ge_of_wildcard {a : Anchor} {current cur : Option Int} {r x : Int} (hw : a.wildcard = true) (h : Spec.due s a current r x cur) : r ≤ x := by
  cases a with
  | absolute pt => cases hw
  | sample i p => cases hw
  | label i p o =>
    obtain ⟨k, ⟨hge, -⟩, rfl, -⟩ := h.1 (patternWild_iff.mp hw)
    exact hge

theorem whole_of_wildcard {a : Anchor} (hw : a.wildcard = true) (s : State) (current : Option Int) (x : Int) : Spec.whole s a current x = true := by
  cases a with
  | absolute pt => cases hw
  | sample i p => cases hw
  | label i p o => rfl

theorem lane_of_wildcard {a : Anchor} (hw : a.wildcard = true) : ∃ i, a.lane? = some i := by
  cases a with
  | absolute pt => cases hw
  | sample i p => cases hw
  | label i p o => exact ⟨i, rfl⟩

/-- A wildcard cue of the due list has the due of a search from the PT placed (R142, R153). -/
theorem cuesDiscontinuity_wild (hn : s.dues.Nodup) (hc : s.cue slot = some c) (hm : slot ∈ s.dues) (hw : c.anchor.wildcard = true)
    (hst : c.state ≠ .suspended) (hr : ∀ i ∈ c.anchor.lane?, (s.lane i).rateOk) {x : Int} {cur : Option Int}
    (hdue : Spec.due s c.anchor c.current s.tb.pt x cur) (hx : x < 2 ^ 64) :
    (cuesDiscontinuity s).cue slot = some { c with current := cur, due := some x.toNat } ∧ slot ∈ (cuesDiscontinuity s).dues := by
  have hge := due_ge_of_wildcard hw hdue
  obtain ⟨i, hi⟩ := lane_of_wildcard hw
  obtain ⟨u, hu, ht⟩ := foldl_reach (op := fun s slot => recomputeCue slot s) (fun u a => recomputeCue_worked a u)
    (l := s.dues.filter fun slot => (s.cue slot).any fun c => c.anchor.wildcard) (slot := slot) (hn.filter _) (by simp [hm, hc, hw]) s
  have hafter := hu.ahead.trans (recomputeCue_ahead u slot)
  have hfound := refound_recomputeCue (hu.cue.trans hc) hi ((rateOk_alike hu.ahead.alike i).mpr (hr i hi)) x cur
    (by rw [hafter.alike.1]; exact (due_alike hafter.alike).mpr hdue) (by omega) hx
  obtain ⟨hcue, hmem⟩ := (hfound.1 (Or.inl (whole_of_wildcard hw _ _ _))).1 (by rw [hafter.alike.1]; exact hge)
  rw [if_neg hst] at hcue
  have hjudged := judged_handleLate (researched_nodup hn) (ht.cue.trans hcue) (ht.mem.mpr hmem) x.toNat rfl
  refine hjudged.1 ?_
  rw [← cuesDiscontinuity_eq, (cuesDiscontinuity_ahead s).alike.1]
  omega

/-- A device after a discontinuity (R137). -/
def Device.quieted (d e : Device) : Prop :=
  e.ring = [] ∧ e.offsetEst = none ∧ e.driftEst = none ∧ e.outliers = 0
    ∧ (d.cue = none → e = { d with ring := [], top := 0, offsetEst := none, driftEst := none, outliers := 0, silenceLeft := none, state := .unseen })

theorem Device.discontinued_eq {d : Device} (h : d.cue = none) :
    d.discontinued
      = { d with ring := [], top := 0, offsetEst := none, driftEst := none, outliers := 0, silenceLeft := none, state := .unseen } := by
  cases d; cases h; rfl

theorem Device.quieted_discontinued (d : Device) : d.quieted d.discontinued := ⟨rfl, rfl, rfl, rfl, Device.discontinued_eq⟩

theorem Device.quieted_cueGone (d : Device) : d.quieted (d.discontinued.cueGone false) := by
  have hgone : d.discontinued.cueGone false = { d.discontinued with state := .unseen, silenceLeft := none, cue := none } := rfl
  rw [hgone]
  refine ⟨rfl, rfl, rfl, rfl, fun h => ?_⟩
  rw [Device.discontinued_eq h]
  cases d; cases h; rfl

theorem Device.cueGone_quieted (d : Device) : d.quieted (d.cueGone false).discontinued := by
  refine ⟨rfl, rfl, rfl, rfl, fun h => ?_⟩
  unfold Device.cueGone
  cases d; cases h
  cases hr : List.isEmpty _ <;> rfl

theorem device_devicesDiscontinuity (s : State) (n : Nat) : (devicesDiscontinuity s).device n = (s.device n).map Device.discontinued :=
  Bank.get_mapSome _ _ _

end

/-! ### The two outcomes of a TIME_SET -/

section
variable {s : State} {time : Nat} {v : Int}

/-- TIME_SET, once its time is in range (R61). -/
theorem exec_timeSet (h : s.resetLow = false) (htime : time < 2 ^ 56) (h0 : 0 ≤ (time : Int) + s.timeAdjust time)
    (hlt : (time : Int) + s.timeAdjust time < 2 ^ 64) :
    exec (.timeSet time) s
      = .next (Spec.ok (if s.tb.set then discontinuity (s.placedAt (time + s.timeAdjust time)) else firstTimeSet (s.placedAt (time + s.timeAdjust time)))
          [.pt (time + s.timeAdjust time), .ticks (s.timeAdjust time), .code s.tb.state.code]) := by
  rw [exec, execTimeSet, request_live h]
  simp only [if_neg (show ¬ 2 ^ 56 ≤ time by omega), movePt_eq h0 hlt]
  rfl

/-- The state in which the first TIME_SET is announced to the Cue Scheduler. -/
def State.firstPlaced (s : State) (v : Int) : State := lanesTimeSet ((s.placedAt v).setTb { (s.placedAt v).tb with set := true })

theorem firstTimeSet_eq (s : State) (v : Int) : firstTimeSet (s.placedAt v) = cuesTimeSet (s.firstPlaced v) := rfl

/-- The state in which a discontinuity is announced to the Device Tracker and the Cue Scheduler. -/
def State.replaced (s : State) (v : Int) : State := lanesDiscontinuity (marksDiscontinuity (raise .timeDiscontinuity (s.placedAt v)))

/-- What a discontinuity leaves in either order of its last two announcements. -/
theorem discontinuity_cases {P : State → Prop} (h1 : P (cuesDiscontinuity (devicesDiscontinuity (s.replaced v))))
    (h2 : P (devicesDiscontinuity (cuesDiscontinuity (s.replaced v)))) (hd : ∀ u, P u → P u.draw) : P (discontinuity (s.placedAt v)) :=
  unordered_cases h1 h2 hd

/-- What is said of one slot after the Cue Scheduler's part holds after the whole discontinuity. -/
theorem discontinuity_slot {slot : Nat} {R : State → Prop} (hR : ∀ {x y : State}, x.Kept slot y → R x → R y)
    (h : ∀ x : State, x.cues = s.cues → x.dues = s.dues → x.tb = (s.replaced v).tb → x.lanes = (s.replaced v).lanes → R (cuesDiscontinuity x)) :
    R (discontinuity (s.placedAt v)) := by
  have hsame : ∀ {x y : State}, y.cues = x.cues → y.dues = x.dues → y.tb = x.tb → y.lanes = x.lanes → y.attn = x.attn → R x → R y :=
    fun hcues hdues htb hlanes hattn => hR (State.Kept.of_eq hcues hdues (State.Ahead.of_eq htb hlanes hattn))
  exact discontinuity_cases (h (devicesDiscontinuity (s.replaced v)) rfl rfl rfl rfl)
    (hsame (x := cuesDiscontinuity (s.replaced v)) rfl rfl rfl rfl rfl (h (s.replaced v) rfl rfl rfl rfl)) fun u hu => hsame (x := u) (y := u.draw) rfl rfl rfl rfl rfl hu

theorem discontinuity_ahead : (s.replaced v).Ahead (discontinuity (s.placedAt v)) := by
  refine discontinuity_cases (P := (s.replaced v).Ahead) ?_ ?_ fun u hu => hu.trans (State.Ahead.of_eq rfl rfl rfl)
  · exact State.Ahead.trans (t := devicesDiscontinuity (s.replaced v)) (State.Ahead.of_eq rfl rfl rfl) (cuesDiscontinuity_ahead _)
  · exact (cuesDiscontinuity_ahead _).trans (State.Ahead.of_eq rfl rfl rfl)

/-- The frame of a discontinuity. -/
theorem discontinuity_frame :
    discontinuity (s.placedAt v)
      = { s.placedAt v with
          marks := (discontinuity (s.placedAt v)).marks, lanes := (discontinuity (s.placedAt v)).lanes
          devices := (discontinuity (s.placedAt v)).devices, cues := (discontinuity (s.placedAt v)).cues
          dues := (discontinuity (s.placedAt v)).dues, lines := (discontinuity (s.placedAt v)).lines
          attn := (discontinuity (s.placedAt v)).attn, draws := (discontinuity (s.placedAt v)).draws } := by
  refine discontinuity_cases (P := fun t => t = { s.placedAt v with
    marks := t.marks, lanes := t.lanes, devices := t.devices, cues := t.cues, dues := t.dues, lines := t.lines, attn := t.attn, draws := t.draws })
    ?_ ?_ fun u hu => congrArg State.draw hu
  · have := cuesDiscontinuity_touch (devicesDiscontinuity (s.replaced v))
    unfold CueTouch at this
    rw [this]; rfl
  · have := cuesDiscontinuity_touch (s.replaced v)
    unfold CueTouch at this
    rw [this]; rfl

theorem discontinuity_marks : (discontinuity (s.placedAt v)).marks = s.marks.map fun m => { m with fifo := [] } := by
  refine discontinuity_cases (P := fun t => t.marks = s.marks.map fun m => { m with fifo := [] }) ?_ ?_ fun u hu => hu
  · rw [(cuesDiscontinuity_touch _).keeps.2.2.2.2.2.1]; rfl
  · exact (cuesDiscontinuity_touch _).keeps.2.2.2.2.2.1

/-- A device after a discontinuity (R137). -/
theorem discontinuity_device {n : Nat} {d : Device} (hd : s.device n = some d) :
    ∃ e, (discontinuity (s.placedAt v)).device n = some e ∧ d.quieted e := by
  refine discontinuity_cases (P := fun t => ∃ e, t.device n = some e ∧ d.quieted e) ?_ ?_ fun u hu => hu
  · have hquiet : (devicesDiscontinuity (s.replaced v)).device n = some d.discontinued := by
      rw [device_devicesDiscontinuity, show (s.replaced v).device n = some d from hd]; rfl
    rcases (cuesDiscontinuity_told _ n).2 _ hquiet with he | he
    · exact ⟨_, he, d.quieted_discontinued⟩
    · exact ⟨_, he, d.quieted_cueGone⟩
  · rcases (cuesDiscontinuity_told _ n).2 d (show (s.replaced v).device n = some d from hd) with he | he
    · exact ⟨_, by rw [device_devicesDiscontinuity, he]; rfl, d.quieted_discontinued⟩
    · exact ⟨_, by rw [device_devicesDiscontinuity, he]; rfl, d.cueGone_quieted⟩

theorem lane_replaced (s : State) (v : Int) (i : Nat) :
    (s.replaced v).lane i = if (s.lane i).state = .free then s.lane i else (s.lane i).track v.toNat := lane_lanesDiscontinuity _ i

theorem lane_firstPlaced (s : State) (v : Int) (i : Nat) :
    (s.firstPlaced v).lane i = if (s.lane i).state = .waiting then (s.lane i).track v.toNat else s.lane i := lane_lanesTimeSet _ i

theorem rateOk_replaced (s : State) (v : Int) (i : Nat) : ((s.replaced v).lane i).rateOk ↔ (s.lane i).rateOk := by
  rw [lane_replaced]
  split_ifs <;> exact Iff.rfl

end

/-- Settles O33: the value taken, and the first TIME_SET and a discontinuity part by part. -/
theorem timeSetPlacesPictureTime : Obligations.TimeSetPlacesPictureTime := by
  unfold Obligations.TimeSetPlacesPictureTime
  intro s time h
  refine ⟨fun hbig => ?_, fun htime hhouse => ?_⟩
  · rw [exec, execTimeSet, request_live h]
    simp only [if_pos hbig]; rfl
  obtain ⟨hfree, hrun, h0, hle⟩ := timeAdjust_spec (time := time) hhouse
  have hlt : (time : Int) + s.timeAdjust time < 2 ^ 64 := by omega
  have hexec := exec_timeSet h htime h0 hlt
  generalize s.timeAdjust time = a at *
  have hv : (((time : Int) + a).toNat : Int) = time + a := by omega
  cases hset : s.tb.set with
  | false =>
    rw [hset, if_neg (by decide), firstTimeSet_eq] at hexec
    refine ⟨_, a, hexec, hfree, hrun, ?_, fun _ => ⟨?_, fun hok => cuesTimeSet_devices (s := s.firstPlaced _) hok, fun lane _ hst => ?_,
      fun lane hlane k hst hlow hhigh => ?_, fun slot _ q pt hq hst ha => ?_, fun slot _ q hq hnot => ?_⟩, fun hc => absurd hc (by decide)⟩
    · have := cuesTimeSet_touch (s.firstPlaced (time + a))
      unfold CueTouch at this
      rw [this]; rfl
    · exact (cuesTimeSet_touch _).keeps.2.2.2.2.2.1
    · rw [lane_cuesTimeSet, lane_firstPlaced, if_neg hst]
    · rw [lane_cuesTimeSet, lane_firstPlaced, if_pos hst, Lane.track_eq (k := k) (by omega) (by omega)]
    · obtain ⟨hin, hlate⟩ := cuesTimeSet_held (s := s.firstPlaced (time + a)) hq hst ha
      exact ⟨fun hp => hin (show (time + a : Int).toNat ≤ pt by omega), fun hp => hlate (show pt < (time + a : Int).toNat by omega)⟩
    · refine (cuesTimeSet_kept (s := s.firstPlaced (time + a)) fun c hc => ?_).cue.trans hq
      rw [show (s.firstPlaced (time + a)).cue slot = s.cue slot from rfl, hq] at hc
      cases hc
      rw [Bool.eq_false_iff]
      intro hheld
      obtain ⟨hst, pt, ha⟩ := (heldAbsolute_iff q).mp hheld
      rcases hnot with hn | hn
      · exact hn hst
      · rw [ha] at hn; cases hn
  | true =>
    rw [hset, if_pos rfl] at hexec
    refine ⟨_, a, hexec, hfree, hrun, ?_, fun hc => absurd hc (by decide), fun _ => ⟨?_, discontinuity_marks, fun n _ d hd => ?_, fun lane hlane k hst hlow hhigh => ?_,
      fun hok slot _ q hq => ⟨fun hm => ?_, fun hm hw => ?_, fun hm hw hr x cur hdue hx => ?_⟩⟩⟩
    · have htb : ({ s.tb with pt := ((time : Int) + a).toNat } : Timebase) = { s.tb with pt := ((time : Int) + a).toNat, set := true } :=
        congrArg (fun b => ({ s.tb with pt := ((time : Int) + a).toNat, set := b } : Timebase)) hset
      refine discontinuity_frame.trans ?_
      rw [← htb]; rfl
    · refine discontinuity_ahead.flag _ ?_
      change ((raise .timeDiscontinuity (s.placedAt (time + a))).flag .timeDiscontinuity).set = true
      rw [flag_raise, if_pos rfl]
    · obtain ⟨e, he, h1, h2, h3, h4, h5⟩ := discontinuity_device (v := time + a) hd
      exact ⟨e, he, h1, h2, h3, h4, h5⟩
    · have := discontinuity_ahead (s := s) (v := time + a) |>.alike.2 lane
      rw [lane_replaced, if_neg hst, Lane.track_eq (k := k) (by omega) (by omega)] at this
      exact this
    · refine discontinuity_slot (slot := slot) (R := fun t => t.cue slot = some q) (fun hk hx => hk.cue.trans hx) fun x hcues hdues _ _ => ?_
      exact (cuesDiscontinuity_unlisted (s := x) (by rw [hdues]; exact hm)).cue.trans (by rw [State.cue, hcues]; exact hq)
    · refine discontinuity_slot (slot := slot) (R := fun t => Spec.judged t slot q) judged_kept fun x hcues hdues _ _ => ?_
      exact cuesDiscontinuity_judged (by rw [hdues]; exact hok.1) (by rw [State.cue, hcues]; exact hq) (by rw [hdues]; exact hm) hw
    · have hst : q.state ≠ .suspended := by
        have hlisted := hok.2.2.1 slot hm
        rw [hq, Option.any_some] at hlisted
        intro hst
        simp [Cue.listed, hst] at hlisted
      refine discontinuity_slot (slot := slot) (R := fun t => t.cue slot = some { q with current := cur, due := some x.toNat } ∧ slot ∈ t.dues)
        (fun hk hx => ⟨hk.cue.trans hx.1, hk.mem.mpr hx.2⟩) fun y hcues hdues htb hlanes => ?_
      have hsame : (s.replaced (time + a)).Alike y := ⟨htb, fun i => by rw [State.lane, hlanes]; rfl⟩
      refine cuesDiscontinuity_wild (by rw [hdues]; exact hok.1) (by rw [State.cue, hcues]; exact hq) (by rw [hdues]; exact hm) hw hst
        (fun i hi => (rateOk_alike hsame i).mpr ((rateOk_replaced s _ i).mpr (hr i hi))) ?_ hx
      refine (due_alike hsame).mpr ?_
      rw [htb, show (((s.replaced (time + a)).tb.pt : Nat) : Int) = time + a from hv]
      exact (due_alike discontinuity_ahead.alike).mp hdue

end Sys2Proof.Machine
end

section
/-! What a lane's turn at a step leaves of the other lanes, their outputs, followers and cues, and of the cues found again (R86). -/

namespace Sys2Proof.Machine

/-! ### Late cues handled after a firing or a recomputation -/

section
variable {s : State} {slot : Nat} {c : Cue} {d : Int}

theorem handleLate_intime {n : Nat} (hc : s.cue slot = some c) (hd : c.due = some n) (hp : s.tb.pt ≤ n) : s.Kept slot (handleLate s) := by
  refine foldl_kept (op := fun s slot => lateCue slot s) (fun u a => lateCue_worked a u) (fun hm => ?_) s
  have hdue : s.dueOf slot = n := by rw [State.dueOf, hc, Option.bind_some, hd]; rfl
  have := (List.mem_filter.mp hm).2
  rw [hdue, decide_eq_true_eq] at this
  omega

/-- The slot, found in or out of the due list with its due not passed, is as it was after late cues are handled. -/
theorem handleLate_gone {x : Option Cue} (h : s.cue slot = x ∧ slot ∉ s.dues) : (handleLate s).cue slot = x ∧ slot ∉ (handleLate s).dues := by
  have hk := handleLate_kept h.2
  exact ⟨hk.cue.trans h.1, fun hm => h.2 (hk.mem.mp hm)⟩

theorem handleLate_ahead_of {n : Nat} (hd : c.due = some n) (hp : s.tb.pt ≤ n) (h : s.cue slot = some c ∧ slot ∈ s.dues) :
    (handleLate s).cue slot = some c ∧ slot ∈ (handleLate s).dues := by
  have hk := handleLate_intime h.1 hd hp
  exact ⟨hk.cue.trans h.1, hk.mem.mpr h.2⟩

theorem fired_handleLate (h : Spec.fired s slot c d) : Spec.fired (handleLate s) slot c d := by
  have hahead := handleLate_ahead s
  have halike := hahead.alike
  unfold Spec.fired at h ⊢
  simp only [paced_alike halike, dueAfter_alike halike, resumes_alike halike, whole_alike halike, masked_alike halike, halike.1]
  obtain ⟨hone, hpassed, hres⟩ := h
  refine ⟨fun h1 => handleLate_gone (hone h1), fun m y cur hm h2 hp hy hlt => handleLate_gone (hpassed m y cur hm h2 hp hy hlt), fun n x cur hn hr => ?_⟩
  obtain ⟨hclass, hfound, hstop⟩ := hres n x cur hn hr
  refine ⟨fun hb => handleLate_gone (hclass hb), fun hb hgo hx => ?_, fun hb hgo => ?_⟩
  · obtain ⟨h1, h2, h3⟩ := hfound hb hgo hx
    have hge := hr.2.2
    obtain ⟨h1, h2⟩ := handleLate_ahead_of rfl (by omega) ⟨h1, h2⟩
    exact ⟨h1, h2, fun i hi hl hp => hahead.sticky i (h3 i hi hl hp)⟩
  · obtain ⟨h1, h2, h3⟩ := hstop hb hgo
    obtain ⟨h1, h2⟩ := handleLate_gone ⟨h1, h2⟩
    exact ⟨h1, h2, hahead.flag _ h3⟩

theorem late_handleLate (h : Spec.late s slot c d) : Spec.late (handleLate s) slot c d := by
  have hahead := handleLate_ahead s
  obtain ⟨hdrop, hfire⟩ := h
  refine ⟨fun hd => ?_, fun hd => ?_⟩
  · obtain ⟨h1, h2, h3⟩ := hdrop hd
    obtain ⟨h1, h2⟩ := handleLate_gone ⟨h1, h2⟩
    exact ⟨h1, h2, hahead.flag _ h3⟩
  · obtain ⟨h1, h2, h3⟩ := hfire hd
    exact ⟨hahead.flag _ h1, fun hf => hahead.flag _ (h2 hf), fired_handleLate h3⟩

/-- A cue found again has no due that has been passed, so that late cues handled after it leave it (R153, R155). -/
theorem refound_handleLate (h : Spec.refound s slot c) : Spec.refound (handleLate s) slot c := by
  have hahead := handleLate_ahead s
  have halike := hahead.alike
  unfold Spec.refound at h ⊢
  simp only [halike.1, due_alike halike, whole_alike halike, masked_alike halike]
  intro x cur hdue h0 hx
  obtain ⟨hgo, hstop⟩ := h x cur hdue h0 hx
  refine ⟨fun hc => ⟨fun hp => handleLate_ahead_of rfl (by omega) ((hgo hc).1 hp), fun hp => late_handleLate ((hgo hc).2 hp)⟩, fun hw hm => ?_⟩
  obtain ⟨h1, h2, h3⟩ := hstop hw hm
  obtain ⟨h1, h2⟩ := handleLate_gone ⟨h1, h2⟩
  exact ⟨h1, h2, hahead.flag _ h3⟩

end

/-! ### A suspended cue recomputed with its lane -/

section
variable {s : State} {op : State → Nat → State} {l : List Nat} {slot i : Nat} {c : Cue}

/-- A slot that a run works on once. -/
theorem foldl_once (hop : ∀ (u : State) a, u.Worked a (op u a)) (h : l.count slot = 1) (s : State) :
    ∃ u, s.Kept slot u ∧ (op u slot).Kept slot (l.foldl op s) := by
  induction l generalizing s with
  | nil => cases h
  | cons a l ih =>
    rcases eq_or_ne slot a with rfl | hne
    · have hl : slot ∉ l := by
        rw [← List.count_eq_zero]
        simpa using h
      exact ⟨s, State.Kept.refl slot s, foldl_kept hop hl _⟩
    · obtain ⟨u, hu, ht⟩ := ih (by rwa [List.count_cons_of_ne hne.symm] at h) (op s a)
      exact ⟨u, (State.Kept.of_worked (hop s a) hne).trans hu, ht⟩

/-- A SUSPENDED cue of a lane, out of the due list, recomputed with the lane's cues (R155). -/
theorem refound_recomputeLane (hc : s.cue slot = some c) (hi : c.anchor.lane? = some i) (hst : c.state = .suspended) (hm : slot ∉ s.dues)
    (hr : (s.lane i).rateOk) : Spec.refound (recomputeLane i s) slot c := by
  have hmem : slot ∈ s.cuesWhere fun c => c.on i && decide (c.state = .suspended) := (mem_cuesWhere_of hc).mpr (by simp [Cue.on, hi, hst])
  have hcount : (s.cuesToRecompute i).count slot = 1 := by
    rw [State.cuesToRecompute, List.count_append, List.count_eq_zero_of_not_mem fun h => hm (List.mem_of_mem_filter h),
      List.count_eq_one_of_mem (cuesWhere_nodup s _) hmem]
  obtain ⟨u, hu, ht⟩ := foldl_once (op := fun s slot => recomputeCue slot s) (fun u a => recomputeCue_worked a u) hcount s
  exact refound_kept ht (refound_recomputeCue (hu.cue.trans hc) hi ((rateOk_alike hu.ahead.alike i).mpr hr))

end

/-! ### What another lane's turn leaves -/

/-- A lane, or none, is left as it is, with the outputs assigned to it, the offsets of the devices that follow it, and the cues anchored to it. -/
structure State.Aside (a : Option Nat) (s t : State) : Prop where
  tb : t.tb = s.tb
  lane : ∀ i, a = some i → t.lane i = s.lane i
  flag : ∀ f, (s.flag f).set = true → (t.flag f).set = true
  fp : ∀ m, (t.fp m).lane = (s.fp m).lane ∧ ((s.fp m).lane = a → t.fp m = s.fp m)
  device : ∀ n, (s.device n = none → t.device n = none)
    ∧ ∀ d, s.device n = some d → ∃ e, t.device n = some e ∧ e.lane = d.lane ∧ (a = some d.lane → e.ring = d.ring ∧ e.offsetEst = d.offsetEst)
  cue : ∀ slot, (∀ c, s.cue slot = some c → c.anchor.lane? = a) → t.cue slot = s.cue slot ∧ (slot ∈ t.dues ↔ slot ∈ s.dues)
  nodup : s.dues.Nodup → t.dues.Nodup

namespace State.Aside

variable {s t u : State} {a : Option Nat}

theorem refl (a : Option Nat) (s : State) : s.Aside a s :=
  ⟨rfl, fun _ _ => rfl, fun _ h => h, fun _ => ⟨rfl, fun _ => rfl⟩, fun _ => ⟨id, fun d hd => ⟨d, hd, rfl, fun _ => ⟨rfl, rfl⟩⟩⟩,
    fun _ _ => ⟨rfl, Iff.rfl⟩, id⟩

theorem trans (h : s.Aside a t) (k : t.Aside a u) : s.Aside a u where
  tb := k.tb.trans h.tb
  lane := fun i hi => (k.lane i hi).trans (h.lane i hi)
  flag := fun f hf => k.flag f (h.flag f hf)
  fp := fun m => ⟨(k.fp m).1.trans (h.fp m).1, fun hm => ((k.fp m).2 ((h.fp m).1.trans hm)).trans ((h.fp m).2 hm)⟩
  device := fun n => by
    refine ⟨fun hn => (k.device n).1 ((h.device n).1 hn), fun d hd => ?_⟩
    obtain ⟨e, he, hlane, hkeep⟩ := (h.device n).2 d hd
    obtain ⟨e', he', hlane', hkeep'⟩ := (k.device n).2 e he
    refine ⟨e', he', hlane'.trans hlane, fun ha => ?_⟩
    obtain ⟨h1, h2⟩ := hkeep ha
    obtain ⟨h3, h4⟩ := hkeep' (by rw [hlane]; exact ha)
    exact ⟨h3.trans h1, h4.trans h2⟩
  cue := fun slot hs => by
    obtain ⟨h1, h2⟩ := h.cue slot hs
    obtain ⟨h3, h4⟩ := k.cue slot (by rw [h1]; exact hs)
    exact ⟨h3.trans h1, h4.trans h2⟩
  nodup := fun hn => k.nodup (h.nodup hn)

/-- The lane left, what is found from it is the same. -/
theorem spares (h : s.Aside a t) {slot : Nat} (hs : ∀ c, s.cue slot = some c → c.anchor.lane? = a) {b : Anchor} (hb : b.lane? = a) :
    s.Spares b slot t := by
  obtain ⟨hcue, hmem⟩ := h.cue slot hs
  have hlane : ∀ i, b.lane? = some i → t.lane i = s.lane i := fun i hi => h.lane i (hb.symm.trans hi)
  exact ⟨⟨by rw [h.tb], fun i hi => by rw [Lane.Same, hlane i hi]⟩, fun i hi => by rw [hlane i hi]; exact id, h.flag, hcue, hmem⟩

end State.Aside

section
variable {s v : State} {a : Option Nat} {j : Nat} {k : Int}

theorem Device.cueGone_lane (d : Device) (done : Bool) : (d.cueGone done).lane = d.lane := (d.cueGone_keeps done).1

/-- The devices told of their cues. -/
theorem State.Told.aside {t : State} (h : s.Told t) (n : Nat) : (s.device n = none → t.device n = none)
    ∧ ∀ d, s.device n = some d → ∃ e, t.device n = some e ∧ e.lane = d.lane ∧ e.ring = d.ring ∧ e.offsetEst = d.offsetEst := by
  refine ⟨(h n).1, fun d hd => ?_⟩
  obtain ⟨e, he, hring, hest, -, -, hor⟩ := h.keeps hd
  refine ⟨e, he, ?_, hring, hest⟩
  rcases hor with rfl | rfl
  · rfl
  · exact d.cueGone_lane false

/-- A lane's cues found again leave what is not the lane's. -/
theorem recomputeLane_aside (ha : a ≠ some j) (v : State) : v.Aside a (recomputeLane j v) where
  tb := (recomputeLane_touch v j).keeps.2.2.2.1
  lane := fun i hi => lane_recomputeLane_ne v fun hij => ha (by rw [hi, hij])
  flag := (recomputeLane_ahead j v).flag
  fp := fun m => by
    rw [State.fp, (recomputeLane_touch v j).keeps.2.2.2.2.1]
    exact ⟨rfl, fun _ => rfl⟩
  device := fun n => by
    obtain ⟨hnone, hsome⟩ := (recomputeLane_told j v).aside n
    refine ⟨hnone, fun d hd => ?_⟩
    obtain ⟨e, he, hl, hring, hest⟩ := hsome d hd
    exact ⟨e, he, hl, fun _ => ⟨hring, hest⟩⟩
  cue := fun slot hs => by
    have hkept := foldl_kept (op := fun s slot => recomputeCue slot s) (fun u a => recomputeCue_worked a u) (l := v.cuesToRecompute j) (slot := slot)
      (fun hm => by
        obtain ⟨c, hc⟩ : ∃ c, v.cue slot = some c := by
          rcases List.mem_append.mp hm with hm | hm
          · exact ((Option.any_eq_true _ _).mp (List.mem_filter.mp hm).2).imp fun _ h => h.1
          · exact (mem_cuesWhere hm).imp fun _ h => h.1
        exact ha ((hs c hc).symm.trans (on_of_toRecompute hm hc))) v
    exact ⟨hkept.cue, hkept.mem⟩
  nodup := foldl_nodup (op := fun s slot => recomputeCue slot s) fun u a => recomputeCue_worked a u

theorem fp_latchedAs {l : Lane} {p : FramePulse → Bool} (m : Nat) :
    (s.latchedAs j l p).fp m
      = if m < 4 ∧ (s.fp m).lane = some j ∧ p (s.fp m) = true then { s.fp m with level := !(s.fp m).activeLow, remaining := (s.fp m).width } else s.fp m := by
  by_cases hm : m < 4
  · have hget : (s.latchedAs j l p).fp m = _ := Bank.get_map s.fps _ hm _
    rw [hget]
    change (if (decide ((s.fp m).lane = some j) && p (s.fp m)) = true then _ else s.fp m) = _
    simp only [Bool.and_eq_true, decide_eq_true_eq, hm, true_and]
    rfl
  · rw [if_neg fun h => hm h.1, State.fp, State.fp, Bank.get_out _ (by omega), Bank.get_out _ (by omega)]

/-- A lane latched leaves what is not the lane's. -/
theorem latchedAs_aside (ha : a ≠ some j) (l : Lane) (p : FramePulse → Bool) (s : State) : s.Aside a (s.latchedAs j l p) where
  tb := rfl
  lane := fun i hi => State.lane_setLane_ne (fun hij => ha (by rw [hi, hij])) l
  flag := fun _ h => h
  fp := fun m => by
    rw [fp_latchedAs]
    split_ifs with h
    · exact ⟨rfl, fun hl => absurd (hl.symm.trans h.2.1) ha⟩
    · exact ⟨rfl, fun _ => rfl⟩
  device := fun n => ⟨id, fun d hd => ⟨d, hd, rfl, fun _ => ⟨rfl, rfl⟩⟩⟩
  cue := fun _ _ => ⟨rfl, Iff.rfl⟩
  nodup := id

theorem raise_aside (a : Option Nat) (f : Flag) (s : State) : s.Aside a (raise f s) :=
  ⟨rfl, fun _ _ => rfl, fun _ h => raise_keeps_set _ h, fun _ => ⟨rfl, fun _ => rfl⟩, fun _ => ⟨id, fun d hd => ⟨d, hd, rfl, fun _ => ⟨rfl, rfl⟩⟩⟩,
    fun _ _ => ⟨rfl, Iff.rfl⟩, id⟩

theorem devicesShift_aside (ha : a ≠ some j) (shift : Int) (s : State) : s.Aside a (devicesShift j shift s) where
  tb := rfl
  lane := fun _ _ => rfl
  flag := fun _ h => h
  fp := fun _ => ⟨rfl, fun _ => rfl⟩
  device := fun n => by
    have hget : (devicesShift j shift s).device n = (s.device n).map (Device.shifted j shift) := Bank.get_mapSome _ _ _
    rw [hget]
    refine ⟨fun hn => by rw [hn]; rfl, fun d hd => ⟨_, by rw [hd]; rfl, ?_, fun hl => ?_⟩⟩
    · rw [Device.shifted]; split_ifs <;> rfl
    · rw [Device.shifted, if_neg fun h => ha (by rw [hl, h])]
      exact ⟨rfl, rfl⟩
  cue := fun _ _ => ⟨rfl, Iff.rfl⟩
  nodup := id

/-- A boundary leaves what is not its lane's (R83 to R85, R91). -/
theorem takeBoundary_aside (ha : a ≠ some j) (k : Int) (s : State) : s.Aside a (takeBoundary j k s) := by
  cases hst : (s.lane j).state with
  | free =>
    have : takeBoundary j k s = s := by unfold takeBoundary; dsimp only; rw [hst]
    rw [this]
    exact State.Aside.refl a s
  | waiting =>
    rw [takeBoundary_waiting hst]
    exact (latchedAs_aside ha _ _ s).trans ((raise_aside a _ _).trans (recomputeLane_aside ha _))
  | running => rw [takeBoundary_quiet (Or.inl hst)]; exact latchedAs_aside ha _ _ s
  | held => rw [takeBoundary_quiet (Or.inr hst)]; exact latchedAs_aside ha _ _ s
  | releasing =>
    rw [takeBoundary_releasing hst]
    exact (latchedAs_aside ha _ _ s).trans ((raise_aside a _ _).trans ((devicesShift_aside ha _ _).trans (recomputeLane_aside ha _)))

theorem catchUp_aside (ha : a ≠ some j) (s : State) : s.Aside a (catchUp j s) := by
  unfold catchUp
  split_ifs
  · exact takeBoundary_aside ha _ s
  · exact State.Aside.refl a s

end

/-! ### The turns of the lanes at a step -/

section
variable {s : State} {a : Option Nat} {i : Nat} {l : List Nat}

theorem catchUps_aside (h : ∀ j ∈ l, a ≠ some j) (s : State) : s.Aside a (l.foldl (fun s i => catchUp i s) s) := by
  induction l generalizing s with
  | nil => exact State.Aside.refl a s
  | cons j l ih => exact (catchUp_aside (h j List.mem_cons_self) s).trans (ih (fun k hk => h k (List.mem_cons_of_mem j hk)) _)

/-- A lane's turn among the turns of the lanes: before it and after it the lane is left. -/
theorem catchUps_reach (hl : l.Nodup) (h : i ∈ l) (s : State) :
    ∃ u, s.Aside (some i) u ∧ (catchUp i u).Aside (some i) (l.foldl (fun s i => catchUp i s) s) := by
  induction l generalizing s with
  | nil => cases h
  | cons j l ih =>
    obtain ⟨hj, hl⟩ := List.nodup_cons.mp hl
    have hother : ∀ k ∈ l, some j ≠ some k := fun k hk hjk => hj (by rw [Option.some.inj hjk]; exact hk)
    rcases eq_or_ne i j with rfl | hne
    · exact ⟨s, State.Aside.refl _ s, catchUps_aside hother _⟩
    · obtain ⟨u, hu, ht⟩ := ih hl ((List.mem_cons.mp h).resolve_left hne) (catchUp j s)
      exact ⟨u, (catchUp_aside (fun hij => hne (Option.some.inj hij)) s).trans hu, ht⟩

theorem placeByRank_perm (rank : Nat → Nat) (x : Nat) (l : List Nat) : (placeByRank rank x l).Perm (x :: l) := by
  induction l with
  | nil => exact List.Perm.refl _
  | cons y l ih =>
    rw [placeByRank]
    split_ifs
    · exact List.Perm.refl _
    · exact (ih.cons y).trans (List.Perm.swap x y l)

theorem freeOrder_perm (draws : Nat) (l : List Nat) : (freeOrder draws l).Perm l := by
  induction l with
  | nil => exact List.Perm.refl _
  | cons x l ih => exact (placeByRank_perm _ x _).trans (ih.cons x)

/-- The lanes that a step has passed, in the order of their turns. -/
def State.turns (s : State) : List Nat := (s.passedLanes fun st => !st.announces) ++ freeOrder s.draws (s.passedLanes LaneState.announces)

theorem mem_turns : i ∈ s.turns ↔ i < 16 ∧ (s.lane i).boundaryReached s.tb.pt = true := by
  rw [State.turns, List.mem_append, (freeOrder_perm _ _).mem_iff]
  simp only [State.passedLanes, List.mem_filter, slots, List.mem_range, Bool.and_eq_true, Bool.not_eq_true']
  cases (s.lane i).state.announces <;> simp

theorem turns_nodup (s : State) : s.turns.Nodup := by
  refine List.Nodup.append (List.nodup_range.filter _) ((freeOrder_perm _ _).nodup_iff.mpr (List.nodup_range.filter _)) fun i hi hj => ?_
  have h1 : (s.lane i).state.announces = false := by simpa using (Bool.and_eq_true_iff.mp (List.mem_filter.mp hi).2).2
  have h2 := (Bool.and_eq_true_iff.mp (List.mem_filter.mp ((freeOrder_perm _ _).mem_iff.mp hj)).2).2
  rw [h1] at h2
  cases h2

theorem draw_aside (a : Option Nat) (s : State) : s.Aside a s.draw :=
  ⟨rfl, fun _ _ => rfl, fun _ h => h, fun _ => ⟨rfl, fun _ => rfl⟩, fun _ => ⟨id, fun d hd => ⟨d, hd, rfl, fun _ => ⟨rfl, rfl⟩⟩⟩,
    fun _ _ => ⟨rfl, Iff.rfl⟩, id⟩

theorem lanesStep_eq {x : Int} (hx : 0 < x) (s : State) :
    lanesStep x s = s.turns.foldl (fun s i => catchUp i s) s ∨ lanesStep x s = (s.turns.foldl (fun s i => catchUp i s) s).draw := by
  unfold lanesStep
  rw [if_pos hx]
  dsimp only
  split_ifs
  · exact Or.inr rfl
  · exact Or.inl rfl

/-- A lane that a step has not passed is left, and so is what is of no lane (R86). -/
theorem lanesStep_aside {x : Int} (hx : 0 < x) (s : State) (h : ∀ i, a = some i → i < 16 → (s.lane i).boundaryReached s.tb.pt = false) :
    s.Aside a (lanesStep x s) := by
  have hturns : s.Aside a (s.turns.foldl (fun s i => catchUp i s) s) := catchUps_aside (fun j hj ha => by
    obtain ⟨hlt, hr⟩ := mem_turns.mp hj
    rw [h j ha hlt] at hr; cases hr) s
  rcases lanesStep_eq hx s with he | he <;> rw [he]
  · exact hturns
  · exact hturns.trans (draw_aside a _)

/-- The turn of a lane that a step has passed (R86). -/
theorem lanesStep_reach {x : Int} (hx : 0 < x) (s : State) (hi : i < 16) (hr : (s.lane i).boundaryReached s.tb.pt = true) :
    ∃ u, s.Aside (some i) u ∧ (takeBoundary i ((s.lane i).indexAt s.tb.pt) u).Aside (some i) (lanesStep x s) := by
  obtain ⟨u, hu, ht⟩ := catchUps_reach (turns_nodup s) (mem_turns.mpr ⟨hi, hr⟩) s
  have hcatch : catchUp i u = takeBoundary i ((s.lane i).indexAt s.tb.pt) u := by
    rw [catchUp, hu.tb, hu.lane i rfl, if_pos hr]
  rw [hcatch] at ht
  refine ⟨u, hu, ?_⟩
  rcases lanesStep_eq hx s with he | he <;> rw [he]
  · exact ht
  · exact ht.trans (draw_aside _ _)

end

end Sys2Proof.Machine
end

section
/-! What a step does to the lanes, their outputs, their followers and the cues, in either order of its announcements (R71, R86). -/

namespace Sys2Proof.Machine

/-! ### A lane at its turn -/

section
variable {s : State} {i n m slot : Nat} {k : Int} {d : Device} {c : Cue}

theorem fp_recomputeLane (v : State) (i m : Nat) : (recomputeLane i v).fp m = v.fp m := by
  rw [State.fp, (recomputeLane_touch v i).keeps.2.2.2.2.1]; rfl

theorem fp_mappingChange (v : State) (i m : Nat) (delta : Int) : (mappingChange i delta v).fp m = v.fp m := by
  rw [State.fp, (mappingChange_touch v i delta).keeps.2.2.2.2.1]; rfl

/-- An output of a lane, judged against the record just latched (R102). -/
theorem fp_latched {t : State} {l : Lane} {p : FramePulse → Bool} {st : LaneState} {r : Latched} (hm : m < 4) (hf : (s.fp m).lane = some i)
    (ht : t.fp m = (s.latchedAs i l p).fp m) (hp : p (s.fp m) = true ↔ Spec.pulses st r (s.fp m)) :
    (Spec.pulses st r (s.fp m) → t.fp m = { s.fp m with level := !(s.fp m).activeLow, remaining := (s.fp m).width })
      ∧ (¬ Spec.pulses st r (s.fp m) → t.fp m = s.fp m) := by
  rw [ht, fp_latchedAs, ← hp]
  refine ⟨fun h => if_pos ⟨hm, hf, h⟩, fun h => if_neg fun hc => h hc.2.2⟩

/-- The outputs of a lane at its boundary (R102). -/
theorem takeBoundary_fp (hst : (s.lane i).state ≠ .free) (hm : m < 4) (hf : (s.fp m).lane = some i) {r : Latched}
    (hr : ((takeBoundary i k s).lane i).latched = some r) :
    (Spec.pulses (s.lane i).state r (s.fp m) → (takeBoundary i k s).fp m = { s.fp m with level := !(s.fp m).activeLow, remaining := (s.fp m).width })
      ∧ (¬ Spec.pulses (s.lane i).state r (s.fp m) → (takeBoundary i k s).fp m = s.fp m) := by
  have hi := State.lane_lt hst
  have hcount : ∀ {l : Lane} {v : State}, v.lane i = l.latch k → v.Alike (takeBoundary i k s) → r.count = l.latchCount k := fun hv ha => by
    have := lane_after hv ha
    rw [this] at hr
    exact (congrArg Latched.count (Option.some.inj hr)).symm
  cases h : (s.lane i).state with
  | free => exact absurd h hst
  | running =>
    have hc := hcount (lane_latchedAs hi _ _) (takeBoundary_quiet_alike (k := k) (Or.inl h))
    refine fp_latched hm hf (by rw [takeBoundary_quiet (Or.inl h)]) ?_
    simp [Spec.pulses, hc, pulsesAt, h]
  | held =>
    refine fp_latched hm hf (by rw [takeBoundary_quiet (Or.inr h)]) ?_
    simp [Spec.pulses, pulsesAt, h]
  | waiting =>
    have hc := hcount (lane_latchedAs hi _ _) (takeBoundary_waiting_ahead (k := k) h).alike
    refine fp_latched (l := ((s.lane i).started k).latch k) hm hf (by rw [takeBoundary_waiting h, fp_recomputeLane]; rfl) ?_
    simp [Spec.pulses, hc, latchCount_unheld (show ((s.lane i).started k).state ≠ .held from LaneState.noConfusion)]
  | releasing =>
    have hc := hcount (lane_latchedAs hi _ _) (takeBoundary_releasing_alike (k := k) h)
    refine fp_latched (l := ((s.lane i).released k).latch k) hm hf (by rw [takeBoundary_releasing h, fp_mappingChange]; rfl) ?_
    simp [Spec.pulses, hc, latchCount_unheld (show ((s.lane i).released k).state ≠ .held from LaneState.noConfusion)]

/-- A follower of a lane at its boundary (R92, R136). -/
theorem takeBoundary_device (hd : s.device n = some d) (hl : d.lane = i) :
    ∃ e, (takeBoundary i k s).device n = some e
      ∧ ((s.lane i).state ≠ .releasing → e.offsetEst = d.offsetEst ∧ e.ring = d.ring)
      ∧ ((s.lane i).state = .releasing → e.offsetEst = d.offsetEst.map (· + (s.lane i).releaseDelta k * (s.lane i).period)
          ∧ e.ring = d.ring.map fun o => { o with offset := o.offset + (s.lane i).releaseDelta k * (s.lane i).period }) := by
  cases h : (s.lane i).state with
  | free =>
    refine ⟨d, ?_, fun _ => ⟨rfl, rfl⟩, fun hc => by cases hc⟩
    unfold takeBoundary
    dsimp only
    rw [h]
    exact hd
  | running => exact ⟨d, by rw [takeBoundary_quiet (Or.inl h)]; exact hd, fun _ => ⟨rfl, rfl⟩, fun hc => by cases hc⟩
  | held => exact ⟨d, by rw [takeBoundary_quiet (Or.inr h)]; exact hd, fun _ => ⟨rfl, rfl⟩, fun hc => by cases hc⟩
  | waiting =>
    obtain ⟨e, he, -, hring, hest⟩ := ((recomputeLane_told i (raise .laneReleased (s.latchedAs i (((s.lane i).started k).latch k) fun f =>
      decide (Spec.count ((s.lane i).started k) k % f.cadence = 0)))).aside n).2 d hd
    exact ⟨e, by rw [takeBoundary_waiting h]; exact he, fun _ => ⟨hest, hring⟩, fun hc => by cases hc⟩
  | releasing =>
    obtain ⟨e, he, hfol, -⟩ := released_device (k := k) h hd
    exact ⟨e, he, fun hc => absurd rfl hc, fun _ => hfol hl⟩

theorem takeBoundary_released_flag (h : (s.lane i).state = .waiting ∨ (s.lane i).state = .releasing) :
    ((takeBoundary i k s).flag .laneReleased).set = true := by
  rcases h with h | h
  · exact (started_spec (k := k) h).2.2.1
  · exact (released_spec (k := k) h).2.2.1

/-- A lane that latches without starting or being released leaves the cues (R85). -/
theorem takeBoundary_quiet_cue (h : ¬ ((s.lane i).state = .waiting ∨ (s.lane i).state = .releasing)) :
    (takeBoundary i k s).cues = s.cues ∧ (takeBoundary i k s).dues = s.dues := by
  cases hst : (s.lane i).state with
  | free => unfold takeBoundary; dsimp only; rw [hst]; exact ⟨rfl, rfl⟩
  | waiting => exact absurd (Or.inl hst) h
  | releasing => exact absurd (Or.inr hst) h
  | running => rw [takeBoundary_quiet (Or.inl hst)]; exact ⟨rfl, rfl⟩
  | held => rw [takeBoundary_quiet (Or.inr hst)]; exact ⟨rfl, rfl⟩

theorem takeBoundary_flag {f : Flag} (hf : (s.flag f).set = true) : ((takeBoundary i k s).flag f).set = true :=
  (takeBoundary_aside (a := none) (fun h => by cases h) k s).flag f hf

theorem takeBoundary_tb (i : Nat) (k : Int) (s : State) : (takeBoundary i k s).tb = s.tb :=
  (takeBoundary_aside (a := none) (fun h => by cases h) k s).tb

/-- A quiet lane's boundary spares the cues anchored to it. -/
theorem takeBoundary_spares (h : ¬ ((s.lane i).state = .waiting ∨ (s.lane i).state = .releasing)) {a : Anchor} (ha : a.lane? = some i) (slot : Nat) :
    s.Spares a slot (takeBoundary i k s) := by
  obtain ⟨hcues, hdues⟩ := takeBoundary_quiet_cue (k := k) h
  have hlane : (s.lane i).Same ((takeBoundary i k s).lane i) ∧ ((takeBoundary i k s).lane i).sticky = (s.lane i).sticky := by
    cases hst : (s.lane i).state with
    | free => unfold takeBoundary; dsimp only; rw [hst]; exact ⟨rfl, rfl⟩
    | waiting => exact absurd (Or.inl hst) h
    | releasing => exact absurd (Or.inr hst) h
    | running => rw [takeBoundary_quiet (Or.inl hst), lane_latchedAs (State.lane_lt (s := s) (by rw [hst]; decide))]; exact ⟨rfl, rfl⟩
    | held => rw [takeBoundary_quiet (Or.inr hst), lane_latchedAs (State.lane_lt (s := s) (by rw [hst]; decide))]; exact ⟨rfl, rfl⟩
  have hsame : ∀ j, a.lane? = some j → j = i := fun j hj => Option.some.inj (hj.symm.trans ha)
  refine ⟨⟨by rw [takeBoundary_tb], fun j hj => ?_⟩, fun j hj hs => ?_, fun f hf => takeBoundary_flag hf, by rw [State.cue, hcues]; rfl, by rw [hdues]⟩
  · rw [hsame j hj]; exact hlane.1
  · rw [hsame j hj, hlane.2, ← hsame j hj]; exact hs

/-- A SUSPENDED cue of a lane that starts or is released (R155). -/
theorem takeBoundary_refound (h : (s.lane i).state = .waiting ∨ (s.lane i).state = .releasing) (hc : s.cue slot = some c) (hi : c.anchor.lane? = some i)
    (hst : c.state = .suspended) (hm : slot ∉ s.dues) (hr : ((takeBoundary i k s).lane i).rateOk) : Spec.refound (takeBoundary i k s) slot c := by
  have hlt : i < 16 := State.lane_lt (s := s) (by rcases h with h | h <;> rw [h] <;> decide)
  rcases h with h | h
  · have halike := (takeBoundary_waiting_ahead (k := k) h).alike
    have hrate := (rateOk_alike halike i).mp hr
    rw [takeBoundary_waiting h]
    exact refound_recomputeLane (s := raise .laneReleased (s.latchedAs i _ _)) hc hi hst hm hrate
  · have halike := takeBoundary_releasing_alike (k := k) h
    have hrate := (rateOk_alike halike i).mp hr
    rw [takeBoundary_releasing h]
    exact refound_recomputeLane (s := devicesShift i _ (raise .laneReleased (s.latchedAs i _ _))) hc hi hst hm hrate

/-- A cue out of the due list that is not SUSPENDED is left by its lane's start or release. -/
theorem takeBoundary_idle (h : (s.lane i).state = .waiting ∨ (s.lane i).state = .releasing) (hc : s.cue slot = some c) (hst : c.state ≠ .suspended)
    (hm : slot ∉ s.dues) : (takeBoundary i k s).cue slot = some c ∧ slot ∉ (takeBoundary i k s).dues := by
  have hidle : ∀ v : State, v.cues = s.cues → v.dues = s.dues → (recomputeLane i v).cue slot = some c ∧ slot ∉ (recomputeLane i v).dues :=
    fun v hcues hdues => by
      have hcv : v.cue slot = some c := by rw [State.cue, hcues]; exact hc
      have hmv : slot ∉ v.dues := by rw [hdues]; exact hm
      have hkept := foldl_kept (op := fun s slot => recomputeCue slot s) (fun u a => recomputeCue_worked a u) (l := v.cuesToRecompute i) (slot := slot)
        (fun hl => ((mem_toRecompute_iff hcv).mp hl).2.elim hmv hst) v
      exact ⟨hkept.cue.trans hcv, fun hk => hmv (hkept.mem.mp hk)⟩
  rcases h with h | h
  · rw [takeBoundary_waiting h]
    exact hidle _ rfl rfl
  · rw [takeBoundary_releasing h]
    exact hidle (devicesShift i _ (raise .laneReleased (s.latchedAs i _ _))) rfl rfl

end

end Sys2Proof.Machine
end

section
/-! A step's announcements to the Lane Unit and the Cue Scheduler, in either order (R71, R86, R152, R153). -/

namespace Sys2Proof.Machine

/-! ### Lanes passed -/

section
variable {l : Lane} {pt : Nat}

theorem reached_iff (l : Lane) (pt : Nat) : l.boundaryReached pt = true ↔ Spec.passed l pt := by
  have hplace : ∀ k, Spec.place l k 0 = l.boundaryPt k := fun k => by simp [Spec.place, Lane.boundaryPt]
  rw [Lane.boundaryReached, Bool.and_eq_true, decide_eq_true_eq, Option.any_eq_true, Spec.passed]
  simp only [decide_eq_true_eq, hplace]

theorem not_reached_iff (l : Lane) (pt : Nat) : l.boundaryReached pt = false ↔ ¬ Spec.passed l pt := by
  rw [← reached_iff, Bool.not_eq_true]

theorem boundary_sticky {l l' : Lane} {k : Int} (h : Spec.boundary l l' k) (a b : Conds) :
    Spec.boundary { l with sticky := a } { l' with sticky := b } k := by
  obtain ⟨h1, h2, h3, h4, h5⟩ := h
  exact ⟨fun hs => congrArg (fun x : Lane => { x with sticky := b }) (h1 hs), fun c hs hc => congrArg (fun x : Lane => { x with sticky := b }) (h2 c hs hc),
    fun hs ha => congrArg (fun x : Lane => { x with sticky := b }) (h3 hs ha),
    fun c hs ha hp => congrArg (fun x : Lane => { x with sticky := b }) (h4 c hs ha hp),
    fun c hs hc => congrArg (fun x : Lane => { x with sticky := b }) (h5 c hs hc)⟩

end

/-! ### What the handling of late cues leaves of the lanes, the outputs and the devices -/

/-- Nothing but cues, sticky flags, attention flags and the devices told of their cues has changed. -/
structure State.Hushed (s t : State) : Prop where
  ahead : s.Ahead t
  fps : t.fps = s.fps
  told : s.Told t

namespace State.Hushed

variable {s t u : State}

theorem refl (s : State) : s.Hushed s := ⟨Ahead.refl s, rfl, Told.of_eq rfl⟩

theorem trans (h : s.Hushed t) (k : t.Hushed u) : s.Hushed u := ⟨h.ahead.trans k.ahead, k.fps.trans h.fps, h.told.trans k.told⟩

theorem draw (h : s.Hushed t) : s.Hushed t.draw := h.trans ⟨Ahead.of_eq rfl rfl rfl, rfl, Told.of_eq rfl⟩

theorem fp (h : s.Hushed t) (m : Nat) : t.fp m = s.fp m := by rw [State.fp, h.fps]; rfl

/-- A device, its ring and its estimate. -/
theorem device (h : s.Hushed t) {n : Nat} {d : Device} (hd : s.device n = some d) :
    ∃ e, t.device n = some e ∧ e.lane = d.lane ∧ e.ring = d.ring ∧ e.offsetEst = d.offsetEst := (h.told.aside n).2 d hd

end State.Hushed

theorem handleLate_hushed (s : State) : s.Hushed (handleLate s) :=
  ⟨handleLate_ahead s, (handleLate_touch s).keeps.2.2.2.2.1, foldl_told (op := fun s slot => lateCue slot s) fun u a => lateCue_worked a u⟩

/-! ### Lanes, outputs and followers after a step -/

section
variable {w x t : State} {v : Int} (hv : 0 < v) (hpre : w.Hushed x) (hpost : (lanesStep v x).Hushed t)
include hv hpre hpost

/-- A lane that a step has not passed is as it was, but for sticky flags (R86). -/
theorem stepped_lane_unpassed {i : Nat} (h : ¬ Spec.passed (w.lane i) w.tb.pt) : t.lane i = { w.lane i with sticky := (t.lane i).sticky } := by
  have hx : (x.lane i).boundaryReached x.tb.pt = false := by
    rw [not_reached_iff, hpre.ahead.alike.1, hpre.ahead.alike.2 i]; exact h
  have haside := (lanesStep_aside (a := some i) hv x fun j hj _ => by cases hj; exact hx).lane i rfl
  rw [hpost.ahead.alike.2 i, haside, hpre.ahead.alike.2 i]

/-- A lane that a step has passed has taken its latest boundary (R86). -/
theorem stepped_lane_passed {i : Nat} (h : Spec.passed (w.lane i) w.tb.pt) :
    Spec.boundary (w.lane i) (t.lane i) (((w.tb.pt : Int) - (w.lane i).phase) / (w.lane i).period)
      ∧ ((w.lane i).state = .waiting ∨ (w.lane i).state = .releasing → (t.flag .laneReleased).set = true) := by
  have hx : (x.lane i).boundaryReached x.tb.pt = true := by
    rw [reached_iff, hpre.ahead.alike.1, hpre.ahead.alike.2 i]; exact h
  have hst : (x.lane i).state ≠ .free := ((reached_iff _ _).mp hx).1
  obtain ⟨u, hu, ht⟩ := lanesStep_reach hv x (State.lane_lt hst) hx
  have hul : u.lane i = x.lane i := hu.lane i rfl
  refine ⟨?_, fun hs => ?_⟩
  · have hb := boundary_takeBoundary (s := u) (i := i) (k := (x.lane i).indexAt x.tb.pt) (by rw [hul]; exact hst)
    rw [hul, ← ht.lane i rfl] at hb
    have hb' := boundary_sticky hb (w.lane i).sticky (t.lane i).sticky
    rw [← hpost.ahead.alike.2 i, hpre.ahead.alike.1, hpre.ahead.alike.2 i] at hb'
    exact hb'
  · refine hpost.ahead.flag _ (ht.flag _ (takeBoundary_released_flag ?_))
    rw [hul, hpre.ahead.alike.2 i]
    exact hs

/-- An output that no lane passed drives is as it was. -/
theorem stepped_fp_unpassed {m : Nat} (h : ∀ i, (w.fp m).lane = some i → ¬ Spec.passed (w.lane i) w.tb.pt) : t.fp m = w.fp m := by
  have haside := lanesStep_aside (a := (w.fp m).lane) hv x fun j hj _ => by
    rw [not_reached_iff, hpre.ahead.alike.1, hpre.ahead.alike.2 j]; exact h j hj
  rw [hpost.fp, (haside.fp m).2 (by rw [hpre.fp]), hpre.fp]

/-- An output of a lane passed is judged against the record just latched (R102). -/
theorem stepped_fp_passed {m i : Nat} {r : Latched} (hm : m < 4) (hf : (w.fp m).lane = some i) (h : Spec.passed (w.lane i) w.tb.pt)
    (hr : (t.lane i).latched = some r) :
    (Spec.pulses (w.lane i).state r (w.fp m) → t.fp m = { w.fp m with level := !(w.fp m).activeLow, remaining := (w.fp m).width })
      ∧ (¬ Spec.pulses (w.lane i).state r (w.fp m) → t.fp m = w.fp m) := by
  have hx : (x.lane i).boundaryReached x.tb.pt = true := by
    rw [reached_iff, hpre.ahead.alike.1, hpre.ahead.alike.2 i]; exact h
  have hst : (x.lane i).state ≠ .free := ((reached_iff _ _).mp hx).1
  obtain ⟨u, hu, ht⟩ := lanesStep_reach hv x (State.lane_lt hst) hx
  have hul : u.lane i = x.lane i := hu.lane i rfl
  have huf : u.fp m = w.fp m := by rw [(hu.fp m).2 (by rw [hpre.fp]; exact hf), hpre.fp]
  have hust : (u.lane i).state = (w.lane i).state := by rw [hul, hpre.ahead.alike.2 i]
  have hlatched : ((takeBoundary i ((x.lane i).indexAt x.tb.pt) u).lane i).latched = some r := by
    rw [← ht.lane i rfl, ← hr, hpost.ahead.alike.2 i]
  have hfinal : t.fp m = (takeBoundary i ((x.lane i).indexAt x.tb.pt) u).fp m := by
    rw [hpost.fp, (ht.fp m).2]
    rw [((takeBoundary_aside (a := none) (fun h => by cases h) _ u).fp m).1, huf]
    exact hf
  have hout := takeBoundary_fp (s := u) (k := (x.lane i).indexAt x.tb.pt) (by rw [hul]; exact hst) hm (by rw [huf]; exact hf) hlatched
  rw [hust, huf] at hout
  rw [hfinal]
  exact hout

theorem stepped_device_none {n : Nat} (h : w.device n = none) : t.device n = none :=
  (hpost.told n).1 (((lanesStep_aside (a := none) hv x fun j hj => by cases hj).device n).1 ((hpre.told n).1 h))

/-- A device whose lane is not released keeps its offsets (R135). -/
theorem stepped_device_kept {n : Nat} {d : Device} (hd : w.device n = some d)
    (h : ¬ (Spec.passed (w.lane d.lane) w.tb.pt ∧ (w.lane d.lane).state = .releasing)) :
    ∃ e, t.device n = some e ∧ e.offsetEst = d.offsetEst ∧ e.ring = d.ring := by
  obtain ⟨d1, hd1, hl1, hring1, hest1⟩ := hpre.device hd
  by_cases hp : Spec.passed (w.lane d.lane) w.tb.pt
  · have hx : (x.lane d.lane).boundaryReached x.tb.pt = true := by
      rw [reached_iff, hpre.ahead.alike.1, hpre.ahead.alike.2]; exact hp
    obtain ⟨u, hu, ht⟩ := lanesStep_reach hv x (State.lane_lt ((reached_iff _ _).mp hx).1) hx
    obtain ⟨d2, hd2, hl2, hkeep2⟩ := (hu.device n).2 d1 hd1
    obtain ⟨hring2, hest2⟩ := hkeep2 (by rw [hl1])
    obtain ⟨d3, hd3, hkept, -⟩ := takeBoundary_device (k := (x.lane d.lane).indexAt x.tb.pt) hd2 (hl2.trans hl1)
    obtain ⟨hest3, hring3⟩ := hkept (by
      rw [hu.lane d.lane rfl, hpre.ahead.alike.2]
      exact fun hs => h ⟨hp, hs⟩)
    obtain ⟨d3', hd3', hl3, -⟩ := ((takeBoundary_aside (a := none) (fun h => by cases h) ((x.lane d.lane).indexAt x.tb.pt) u).device n).2 d2 hd2
    rw [hd3] at hd3'; cases hd3'
    obtain ⟨d4, hd4, hl4, hkeep4⟩ := (ht.device n).2 d3 hd3
    obtain ⟨hring4, hest4⟩ := hkeep4 (by rw [hl3, hl2, hl1])
    obtain ⟨d5, hd5, -, hring5, hest5⟩ := hpost.device hd4
    exact ⟨d5, hd5, by rw [hest5, hest4, hest3, hest2, hest1], by rw [hring5, hring4, hring3, hring2, hring1]⟩
  · have haside := lanesStep_aside (a := some d.lane) hv x fun j hj _ => by
      cases hj
      rw [not_reached_iff, hpre.ahead.alike.1, hpre.ahead.alike.2]; exact hp
    obtain ⟨d2, hd2, -, hkeep2⟩ := (haside.device n).2 d1 hd1
    obtain ⟨hring2, hest2⟩ := hkeep2 (by rw [hl1])
    obtain ⟨d3, hd3, -, hring3, hest3⟩ := hpost.device hd2
    exact ⟨d3, hd3, by rw [hest3, hest2, hest1], by rw [hring3, hring2, hring1]⟩

/-- A follower of a lane released has its offsets shifted by the mapping change (R92, R136). -/
theorem stepped_device_released {n : Nat} {d : Device} (hd : w.device n = some d) (hp : Spec.passed (w.lane d.lane) w.tb.pt)
    (hrel : (w.lane d.lane).state = .releasing) {c : Nat} (hc : Spec.resumesAt (w.lane d.lane) c) (hn : 0 < (w.lane d.lane).nDay) :
    ∃ e delta, t.device n = some e ∧ Spec.change (w.lane d.lane) (((w.tb.pt : Int) - (w.lane d.lane).phase) / (w.lane d.lane).period) c delta
      ∧ e.offsetEst = d.offsetEst.map (· + delta * (w.lane d.lane).period)
      ∧ e.ring = d.ring.map fun o => { o with offset := o.offset + delta * (w.lane d.lane).period } := by
  obtain ⟨d1, hd1, hl1, hring1, hest1⟩ := hpre.device hd
  have hx : (x.lane d.lane).boundaryReached x.tb.pt = true := by
    rw [reached_iff, hpre.ahead.alike.1, hpre.ahead.alike.2]; exact hp
  have hxl := hpre.ahead.alike.2 d.lane
  obtain ⟨u, hu, ht⟩ := lanesStep_reach hv x (State.lane_lt ((reached_iff _ _).mp hx).1) hx
  have hul : u.lane d.lane = { w.lane d.lane with sticky := (x.lane d.lane).sticky } := (hu.lane d.lane rfl).trans hxl
  obtain ⟨d2, hd2, hl2, hkeep2⟩ := (hu.device n).2 d1 hd1
  obtain ⟨hring2, hest2⟩ := hkeep2 (by rw [hl1])
  obtain ⟨d3, hd3, -, hshift⟩ := takeBoundary_device (k := (x.lane d.lane).indexAt x.tb.pt) hd2 (hl2.trans hl1)
  obtain ⟨hest3, hring3⟩ := hshift (by rw [hul]; exact hrel)
  obtain ⟨d3', hd3', hl3, -⟩ := ((takeBoundary_aside (a := none) (fun h => by cases h) ((x.lane d.lane).indexAt x.tb.pt) u).device n).2 d2 hd2
  rw [hd3] at hd3'; cases hd3'
  obtain ⟨d4, hd4, hl4, hkeep4⟩ := (ht.device n).2 d3 hd3
  obtain ⟨hring4, hest4⟩ := hkeep4 (by rw [hl3, hl2, hl1])
  obtain ⟨d5, hd5, -, hring5, hest5⟩ := hpost.device hd4
  have hchange := releaseDelta_change (k := (x.lane d.lane).indexAt x.tb.pt) hn (releaseMap_of_resumesAt hc)
  rw [hul] at hest3 hring3
  refine ⟨d5, (w.lane d.lane).releaseDelta ((x.lane d.lane).indexAt x.tb.pt), hd5, ?_, ?_, ?_⟩
  · have hindex : (x.lane d.lane).indexAt x.tb.pt = ((w.tb.pt : Int) - (w.lane d.lane).phase) / (w.lane d.lane).period := by
      rw [hxl, hpre.ahead.alike.1]; rfl
    rw [hindex] at hchange ⊢
    exact hchange
  · rw [hest5, hest4, hest3, hest2, hest1]; rfl
  · rw [hring5, hring4, hring3, hring2, hring1]; rfl

end

/-! ### Cues after a step -/

section
variable {s t u : State} {slot i : Nat} {c e : Cue} {a : Anchor} {v : Int}

theorem State.Spares.trans (h : s.Spares a slot t) (k : t.Spares a slot u) : s.Spares a slot u where
  near := ⟨k.near.1.trans h.near.1, fun i hi => by
    have h1 := h.near.2 i hi
    have h2 := k.near.2 i hi
    rw [Lane.Same] at h1 h2 ⊢
    rw [h1] at h2
    exact h2⟩
  sticky := fun i hi hs => k.sticky i hi (h.sticky i hi hs)
  flag := fun f hf => k.flag f (h.flag f hf)
  cue := k.cue.trans h.cue
  mem := k.mem.trans h.mem

/-- A run of work keeps the lane that a slot's cue is anchored to. -/
theorem foldl_anchor {op : State → Nat → State} (hop : ∀ (u : State) a, u.Worked a (op u a)) {l : List Nat} (h : (l.foldl op s).cue slot = some e) :
    ∃ c, s.cue slot = some c ∧ e.anchor.lane? = c.anchor.lane? := by
  induction l generalizing s with
  | nil => exact ⟨e, h, rfl⟩
  | cons a l ih =>
    obtain ⟨c, hc, hec⟩ := ih h
    rcases eq_or_ne slot a with rfl | hne
    · obtain ⟨b, hb, hcb⟩ := (hop s slot).anchor c hc
      exact ⟨b, hb, hec.trans hcb⟩
    · rw [(hop s a).cue slot hne] at hc
      exact ⟨c, hc, hec⟩

theorem handleLate_anchor (h : (handleLate s).cue slot = some e) : ∃ c, s.cue slot = some c ∧ e.anchor.lane? = c.anchor.lane? :=
  foldl_anchor (op := fun s slot => lateCue slot s) (fun u a => lateCue_worked a u) h

theorem recomputeLane_anchor (h : (recomputeLane i s).cue slot = some e) : ∃ c, s.cue slot = some c ∧ e.anchor.lane? = c.anchor.lane? :=
  foldl_anchor (op := fun s slot => recomputeCue slot s) (fun u a => recomputeCue_worked a u) h

theorem takeBoundary_anchor {k : Int} (h : (takeBoundary i k s).cue slot = some e) : ∃ c, s.cue slot = some c ∧ e.anchor.lane? = c.anchor.lane? := by
  by_cases hst : (s.lane i).state = .waiting ∨ (s.lane i).state = .releasing
  · rcases hst with hst | hst
    · rw [takeBoundary_waiting hst] at h
      obtain ⟨c, hc, he⟩ := recomputeLane_anchor h
      exact ⟨c, hc, he⟩
    · rw [takeBoundary_releasing hst] at h
      obtain ⟨c, hc, he⟩ := recomputeLane_anchor h
      exact ⟨c, hc, he⟩
  · rw [State.cue, (takeBoundary_quiet_cue (k := k) hst).1] at h
    exact ⟨e, h, rfl⟩

/-- A lane that a step makes begin: passed, WAITING or RELEASING. -/
def Lane.begins (l : Lane) (pt : Nat) : Prop := Spec.passed l pt ∧ (l.state = .waiting ∨ l.state = .releasing)

/-- The cues of lanes that do not begin, and those of none, are spared by the lanes' part of a step. -/
theorem lanesStep_spares (hv : 0 < v) (hs : ∀ c, s.cue slot = some c → c.anchor.lane? = a.lane?) (h : ∀ i ∈ a.lane?, ¬ (s.lane i).begins s.tb.pt) :
    s.Spares a slot (lanesStep v s) := by
  by_cases hp : ∃ i, a.lane? = some i ∧ Spec.passed (s.lane i) s.tb.pt
  · obtain ⟨i, hi, hp⟩ := hp
    obtain ⟨u, hu, ht⟩ := lanesStep_reach hv s (State.lane_lt hp.1) ((reached_iff _ _).mpr hp)
    have hquiet : ¬ ((u.lane i).state = .waiting ∨ (u.lane i).state = .releasing) := by
      rw [hu.lane i rfl]
      exact fun hq => h i hi ⟨hp, hq⟩
    have hmid := takeBoundary_spares (k := (s.lane i).indexAt s.tb.pt) hquiet hi slot
    have hcue := (hu.cue slot (by rw [← hi]; exact hs)).1
    refine (hu.spares (by rw [← hi]; exact hs) hi).trans (hmid.trans (ht.spares (fun c hc => ?_) hi))
    rw [hmid.cue, hcue] at hc
    rw [← hi]; exact hs c hc
  · refine (lanesStep_aside (a := a.lane?) hv s fun i hi _ => ?_).spares hs rfl
    rw [not_reached_iff]
    exact fun hc => hp ⟨i, hi, hc⟩

/-- A cue out of the due list of a lane that begins: left, or, SUSPENDED, found again (R155). -/
theorem lanesStep_begins (hv : 0 < v) (hc : s.cue slot = some c) (hi : c.anchor.lane? = some i) (h : (s.lane i).begins s.tb.pt) (hm : slot ∉ s.dues) :
    (c.state ≠ .suspended → (lanesStep v s).cue slot = some c ∧ slot ∉ (lanesStep v s).dues)
      ∧ (c.state = .suspended → ((lanesStep v s).lane i).rateOk → Spec.refound (lanesStep v s) slot c) := by
  obtain ⟨hp, hst⟩ := h
  obtain ⟨u, hu, ht⟩ := lanesStep_reach hv s (State.lane_lt hp.1) ((reached_iff _ _).mpr hp)
  have hlane : ∀ e, s.cue slot = some e → e.anchor.lane? = some i := fun e he => by rw [hc] at he; cases he; exact hi
  obtain ⟨hucue, humem⟩ := hu.cue slot hlane
  have hust : (u.lane i).state = .waiting ∨ (u.lane i).state = .releasing := by rw [hu.lane i rfl]; exact hst
  have hafter : ∀ e, (takeBoundary i ((s.lane i).indexAt s.tb.pt) u).cue slot = some e → e.anchor.lane? = some i := fun e he => by
    obtain ⟨b, hb, heb⟩ := takeBoundary_anchor he
    rw [heb]
    exact hlane b (hucue.symm.trans hb)
  refine ⟨fun hs => ?_, fun hs hr => ?_⟩
  · obtain ⟨h1, h2⟩ := takeBoundary_idle (k := (s.lane i).indexAt s.tb.pt) hust (hucue.trans hc) hs (fun hk => hm (humem.mp hk))
    obtain ⟨h3, h4⟩ := ht.cue slot hafter
    exact ⟨h3.trans h1, fun hk => h2 (h4.mp hk)⟩
  · rw [ht.lane i rfl] at hr
    exact refound_spared (ht.spares hafter hi) (takeBoundary_refound hust (hucue.trans hc) hi hs (fun hk => hm (humem.mp hk)) hr)

/-- A cue of no lane that begins, after both announcements in either order (R86, R153). -/
theorem announced_cue (hv : 0 < v) (hn : s.dues.Nodup) (hc : s.cue slot = some c) (h : ∀ i ∈ c.anchor.lane?, ¬ (s.lane i).begins s.tb.pt) :
    ((slot ∉ s.dues → (handleLate (lanesStep v s)).cue slot = some c) ∧ (slot ∈ s.dues → Spec.judged (handleLate (lanesStep v s)) slot c))
      ∧ ((slot ∉ s.dues → (lanesStep v (handleLate s)).cue slot = some c) ∧ (slot ∈ s.dues → Spec.judged (lanesStep v (handleLate s)) slot c)) := by
  have hself : ∀ e, s.cue slot = some e → e.anchor.lane? = c.anchor.lane? := fun e he => by rw [hc] at he; cases he; rfl
  have halike := (handleLate_ahead s).alike
  have hspared := lanesStep_spares hv hself h
  have hlate : (handleLate s).Spares c.anchor slot (lanesStep v (handleLate s)) := by
    refine lanesStep_spares hv (fun e he => ?_) fun i hi => ?_
    · obtain ⟨b, hb, heb⟩ := handleLate_anchor he
      rw [heb]; exact hself b hb
    · rw [halike.1, halike.2 i]; exact h i hi
  refine ⟨⟨fun hm => ?_, fun hm => ?_⟩, fun hm => ?_, fun hm => ?_⟩
  · exact (handleLate_kept fun hk => hm (hspared.mem.mp hk)).cue.trans (hspared.cue.trans hc)
  · exact judged_handleLate ((lanesStep_aside (a := none) hv s fun j hj => by cases hj).nodup hn) (hspared.cue.trans hc) (hspared.mem.mpr hm)
  · exact hlate.cue.trans ((handleLate_kept hm).cue.trans hc)
  · exact judged_spared hlate (judged_handleLate hn hc hm)

/-- A cue out of the due list of a lane that begins, after both announcements in either order (R86, R155). -/
theorem announced_begun (hv : 0 < v) (hc : s.cue slot = some c) (hi : c.anchor.lane? = some i) (h : (s.lane i).begins s.tb.pt) (hm : slot ∉ s.dues) :
    ((c.state ≠ .suspended → (handleLate (lanesStep v s)).cue slot = some c)
        ∧ (c.state = .suspended → ((handleLate (lanesStep v s)).lane i).rateOk → Spec.refound (handleLate (lanesStep v s)) slot c))
      ∧ ((c.state ≠ .suspended → (lanesStep v (handleLate s)).cue slot = some c)
        ∧ (c.state = .suspended → ((lanesStep v (handleLate s)).lane i).rateOk → Spec.refound (lanesStep v (handleLate s)) slot c)) := by
  have hkept := handleLate_kept hm
  have halike := (handleLate_ahead s).alike
  obtain ⟨hidle, hfound⟩ := lanesStep_begins hv hc hi h hm
  obtain ⟨hidle', hfound'⟩ := lanesStep_begins hv (hkept.cue.trans hc) hi (by rw [halike.1, halike.2 i]; exact h) fun hk => hm (hkept.mem.mp hk)
  refine ⟨⟨fun hs => (handleLate_gone (hidle hs)).1, fun hs hr => ?_⟩, fun hs => (hidle' hs).1, hfound'⟩
  exact refound_handleLate (hfound hs ((rateOk_alike (handleLate_ahead _).alike i).mp hr))

end

end Sys2Proof.Machine
end

section
/-! Steps of PT, and the edges that step it (R48, R67, R71, R86). -/

namespace Sys2Proof.Machine

/-! ### The state that a step announces -/

section
variable {s w t : State} {e : Int}

/-- PT stepped by −e, with PT_STEP, the monitor's times, the marks and the observations moved (R67, R71). -/
def State.stepBase (s : State) (e : Int) : State :=
  raise .ptStep { s with
    tb := { s.tb with pt := ((s.tb.pt : Int) - e).toNat }, ref := s.ref.moved (-e)
    marks := s.marks.map fun m => { m with fifo := m.fifo.map fun q => { q with pt := q.pt - e } }
    devices := s.devices.map (Option.map fun d => { d with ring := d.ring.map fun o => { o with pt := o.pt - e } }) }

theorem stepPt_eq (h0 : 0 ≤ (s.tb.pt : Int) - e) (hlt : (s.tb.pt : Int) - e < 2 ^ 64) :
    stepPt (-e) s = unordered (lanesStep (-e)) (cuesStep (-e)) (s.stepBase e) := by
  have hput : s.putPt ((s.tb.pt : Int) + -e) = { s with tb := { s.tb with pt := ((s.tb.pt : Int) - e).toNat } } := by
    rw [State.putPt, ← sub_eq_add_neg, if_pos ⟨h0, hlt⟩]
  unfold stepPt
  dsimp only
  rw [hput]
  rfl

/-- A backward step announces nothing that the lanes or the cues act on. -/
theorem stepPt_backward (he : 0 < e) (h0 : 0 ≤ (s.tb.pt : Int) - e) (hlt : (s.tb.pt : Int) - e < 2 ^ 64) : stepPt (-e) s = s.stepBase e := by
  have hlanes : ∀ u, lanesStep (-e) u = u := fun u => if_neg (by omega)
  have hcues : ∀ u, cuesStep (-e) u = u := fun u => if_neg (by omega)
  rw [stepPt_eq h0 hlt, unordered]
  simp only [hlanes, hcues, if_true]

/-- The cues after a step that announced itself in `w` (R86, R153, R155). -/
def State.CuesStepped (w t : State) : Prop :=
  w.dues.Nodup → ∀ slot c, w.cue slot = some c →
    ((∀ i ∈ c.anchor.lane?, ¬ (w.lane i).begins w.tb.pt) → (slot ∉ w.dues → t.cue slot = some c) ∧ (slot ∈ w.dues → Spec.judged t slot c))
      ∧ ∀ i, c.anchor.lane? = some i → (w.lane i).begins w.tb.pt → slot ∉ w.dues →
          (c.state ≠ .suspended → t.cue slot = some c) ∧ (c.state = .suspended → (t.lane i).rateOk → Spec.refound t slot c)

theorem State.CuesStepped.draw (h : w.CuesStepped t) : w.CuesStepped t.draw := by
  have hkept : ∀ slot, t.Kept slot t.draw := fun slot => State.Kept.of_eq rfl rfl (State.Ahead.of_eq rfl rfl rfl)
  intro hn slot c hc
  obtain ⟨hquiet, hbegin⟩ := h hn slot c hc
  refine ⟨fun hb => ⟨fun hm => (hquiet hb).1 hm, fun hm => judged_kept (hkept slot) ((hquiet hb).2 hm)⟩, fun i hi hb hm => ?_⟩
  obtain ⟨h1, h2⟩ := hbegin i hi hb hm
  exact ⟨h1, fun hs hr => refound_kept (hkept slot) (h2 hs hr)⟩

/-- The two announcements of a forward step, in either order: lanes between two passes over the cues. -/
theorem stepPt_forward (he : e < 0) (h0 : 0 ≤ (s.tb.pt : Int) - e) (hlt : (s.tb.pt : Int) - e < 2 ^ 64) :
    (∃ x, (s.stepBase e).Hushed x ∧ (lanesStep (-e) x).Hushed (stepPt (-e) s)) ∧ (s.stepBase e).CuesStepped (stepPt (-e) s) := by
  have hv : 0 < -e := by omega
  rw [stepPt_eq h0 hlt]
  generalize s.stepBase e = w
  have hcues : ∀ u, cuesStep (-e) u = handleLate u := fun u => if_pos hv
  refine unordered_cases (P := fun t => (∃ x, w.Hushed x ∧ (lanesStep (-e) x).Hushed t) ∧ w.CuesStepped t) ⟨?_, ?_⟩ ⟨?_, ?_⟩ fun u hu => ⟨?_, hu.2.draw⟩
  · exact ⟨w, State.Hushed.refl w, by rw [hcues]; exact handleLate_hushed _⟩
  · rw [hcues]
    exact fun hn slot c hc => ⟨fun hb => (announced_cue hv hn hc hb).1, fun i hi hb hm => (announced_begun hv hc hi hb hm).1⟩
  · exact ⟨handleLate w, handleLate_hushed w, by rw [hcues]; exact State.Hushed.refl _⟩
  · rw [hcues]
    exact fun hn slot c hc => ⟨fun hb => (announced_cue hv hn hc hb).2, fun i hi hb hm => (announced_begun hv hc hi hb hm).2⟩
  · obtain ⟨⟨x, hx, ht⟩, -⟩ := hu
    exact ⟨x, hx, ht.draw⟩

theorem hushed_tb {x : State} {v : Int} (hv : 0 < v) (hpre : w.Hushed x) (hpost : (lanesStep v x).Hushed t) : t.tb = w.tb := by
  rw [hpost.ahead.alike.1, (lanesStep_aside (a := none) hv x fun j hj => by cases hj).tb, hpre.ahead.alike.1]

theorem hushed_flag {x : State} {v : Int} (hv : 0 < v) (hpre : w.Hushed x) (hpost : (lanesStep v x).Hushed t) {f : Flag} (hf : (w.flag f).set = true) :
    (t.flag f).set = true :=
  hpost.ahead.flag f ((lanesStep_aside (a := none) hv x fun j hj => by cases hj).flag f (hpre.ahead.flag f hf))

theorem stepped_device_some {x : State} {v : Int} (hv : 0 < v) (hpre : w.Hushed x) (hpost : (lanesStep v x).Hushed t) {n : Nat} {d : Device}
    (hd : w.device n = some d) : ∃ e, t.device n = some e ∧ e.lane = d.lane := by
  obtain ⟨d1, hd1, hl1, -⟩ := hpre.device hd
  obtain ⟨d2, hd2, hl2, -⟩ := ((lanesStep_aside (a := none) hv x fun j hj => by cases hj).device n).2 d1 hd1
  obtain ⟨d3, hd3, hl3, -⟩ := hpost.device hd2
  exact ⟨d3, hd3, by rw [hl3, hl2, hl1]⟩

/-- The frame of a step. -/
theorem stepPt_frame (h0 : 0 ≤ (s.tb.pt : Int) - e) (hlt : (s.tb.pt : Int) - e < 2 ^ 64) :
    stepPt (-e) s = { s.stepBase e with
      lanes := (stepPt (-e) s).lanes, devices := (stepPt (-e) s).devices, cues := (stepPt (-e) s).cues, dues := (stepPt (-e) s).dues
      lines := (stepPt (-e) s).lines, attn := (stepPt (-e) s).attn, fps := (stepPt (-e) s).fps, draws := (stepPt (-e) s).draws } := by
  have h := unordered_touch (f := lanesStep (-e)) (g := cuesStep (-e)) (s.stepBase e) (fun s => lanesStep_touch s (-e)) (fun s => LaneTouch.ofCue (cuesStep_touch s (-e)))
  rw [← stepPt_eq h0 hlt] at h
  exact h

theorem stepPt_flag (h0 : 0 ≤ (s.tb.pt : Int) - e) (hlt : (s.tb.pt : Int) - e < 2 ^ 64) {f : Flag} (hf : ((s.stepBase e).flag f).set = true) :
    ((stepPt (-e) s).flag f).set = true := by
  rw [stepPt_eq h0 hlt]
  have hlanes : ∀ u : State, (u.flag f).set = true → ((lanesStep (-e) u).flag f).set = true := fun u hu => by
    by_cases hv : 0 < -e
    · exact (lanesStep_aside (a := none) hv u fun j hj => by cases hj).flag f hu
    · rwa [show lanesStep (-e) u = u from if_neg hv]
  have hcues : ∀ u : State, (u.flag f).set = true → ((cuesStep (-e) u).flag f).set = true := fun u hu => by
    unfold cuesStep
    split_ifs
    · exact (handleLate_ahead u).flag f hu
    · exact hu
  exact unordered_keeps (P := fun u => (u.flag f).set = true) hlanes hcues (fun u hu => hu) hf

/-- A step in the words of the statements (R71, R86). -/
theorem stepped_stepPt (h0 : 0 ≤ (s.tb.pt : Int) - e) (hlt : (s.tb.pt : Int) - e < 2 ^ 64) : Spec.stepped s (stepPt (-e) s) e := by
  refine ⟨by rw [stepPt_frame h0 hlt]; rfl, fun he => ?_, fun he => ?_⟩
  · rw [stepPt_backward he h0 hlt]
    exact ⟨rfl, rfl, rfl, rfl, rfl, rfl⟩
  intro index released begins
  have hv : 0 < -e := by omega
  obtain ⟨⟨x, hpre, hpost⟩, hcues⟩ := stepPt_forward he h0 hlt
  have htb : (stepPt (-e) s).tb = (s.stepBase e).tb := hushed_tb hv hpre hpost
  have hdev : ∀ n d, s.device n = some d → (s.stepBase e).device n = some { d with ring := d.ring.map fun o => { o with pt := o.pt - e } } := fun n d hd => by
    have : (s.stepBase e).device n = (s.device n).map _ := Bank.get_mapSome s.devices _ n
    rw [this, hd]; rfl
  have hrel : ∀ l : Lane, released l ↔ Spec.passed l (s.stepBase e).tb.pt ∧ l.state = .releasing := fun l => by simp only [released, htb]
  have hbeg : ∀ l : Lane, begins l ↔ l.begins (s.stepBase e).tb.pt := fun l => by simp only [begins, htb, Lane.begins]
  have hidx : ∀ l : Lane, index l = (((s.stepBase e).tb.pt : Int) - l.phase) / l.period := fun l => by simp only [index, htb]
  rw [htb]
  refine ⟨fun n _ hn => ?_, fun n _ d hd => ?_, fun i _ => ⟨fun hp => ?_, fun hp => ?_, fun hb => ?_⟩, fun j _ hall => ?_, fun j hj i _ r hf hp hr => ?_, fun hok slot _ q hq => ⟨fun hb => ?_, fun i hi hb hm => ?_⟩⟩
  · refine stepped_device_none hv hpre hpost ?_
    have : (s.stepBase e).device n = (s.device n).map _ := Bank.get_mapSome s.devices _ n
    rw [this, hn]; rfl
  · intro l
    by_cases hr : released l
    · have hlane : (s.lane d.lane).state = .releasing := ((hrel _).mp hr).2
      by_cases hgo : (∃ c, Spec.resumesAt l c) ∧ 0 < l.nDay
      · obtain ⟨⟨c, hc⟩, hn⟩ := hgo
        obtain ⟨d', delta, hd', hchange, hest, hring⟩ := stepped_device_released hv hpre hpost (hdev n d hd) ((hrel _).mp hr).1 hlane hc hn
        refine ⟨d', hd', fun hnot => absurd hr hnot, fun c' _ hc' _ => ⟨delta, ?_, hest, ?_⟩⟩
        · have hsame : c' = c := by
            have h1 := releaseMap_of_resumesAt (k := 0) hc
            rw [releaseMap_of_resumesAt (k := 0) hc'] at h1
            exact congrArg Mapping.c0 h1
          rw [hsame, hidx]
          exact hchange
        · rw [hring, List.map_map]; rfl
      · obtain ⟨d', hd', -⟩ := stepped_device_some hv hpre hpost (hdev n d hd)
        exact ⟨d', hd', fun hnot => absurd hr hnot, fun c' _ hc' hn => absurd ⟨⟨c', hc'⟩, hn⟩ hgo⟩
    · obtain ⟨d', hd', hest, hring⟩ := stepped_device_kept hv hpre hpost (hdev n d hd) (fun hc => hr ((hrel _).mpr hc))
      exact ⟨d', hd', fun _ => ⟨hest, hring⟩, fun _ hc => absurd hc hr⟩
  · exact stepped_lane_unpassed hv hpre hpost hp
  · rw [hidx]; exact (stepped_lane_passed hv hpre hpost hp).1
  · obtain ⟨hp, hst⟩ := (hbeg _).mp hb
    exact (stepped_lane_passed hv hpre hpost hp).2 hst
  · exact stepped_fp_unpassed hv hpre hpost hall
  · exact stepped_fp_passed hv hpre hpost hj hf hp hr
  · exact (hcues hok.1 slot q hq).1 fun i hi => by rw [← hbeg]; exact hb i hi
  · exact (hcues hok.1 slot q hq).2 i hi ((hbeg _).mp hb) hm

/-- A step is told of the same where the Timebase has since changed, but not its PT. -/
theorem stepped_setTb (y : Timebase) (h : Spec.stepped s t e) : Spec.stepped s (t.setTb { y with pt := t.tb.pt }) e := h

/-- An entry edge beyond the threshold steps PT and goes on as an error of 0, the first in-window one (R67 to R69). -/
theorem takeEdge_stepped {period : Nat} (hst : s.tb.state = .locking) (hentry : s.tb.entry = true) (hbig : s.tb.threshold < |e|) (hin : s.tb.inWin = 0)
    (hw : 0 ≤ s.tb.window) (h0 : 0 ≤ (s.tb.pt : Int) - e) (hlt : (s.tb.pt : Int) - e < 2 ^ 64) :
    takeEdge e period s
      = (stepPt (-e) (s.setTb { s.tb with entry := false })).setTb
          { s.tb with
            pt := ((s.tb.pt : Int) - e).toNat, entry := false, inWin := 1, p := 0, i := Spec.trim s.tb.i, trim := Spec.trim s.tb.i } := by
  have htb : (stepPt (-e) (s.setTb { s.tb with entry := false })).tb = { s.tb with pt := ((s.tb.pt : Int) - e).toNat, entry := false } := by
    rw [stepPt_frame (s := s.setTb { s.tb with entry := false }) h0 hlt]; rfl
  have htrim : Spec.trim (Spec.trim s.tb.i) = Spec.trim s.tb.i := by unfold Spec.trim; omega
  have hloop : ({ s.tb with pt := ((s.tb.pt : Int) - e).toNat, entry := false } : Timebase).loop 0 period
      = { s.tb with pt := ((s.tb.pt : Int) - e).toNat, entry := false, p := 0, i := Spec.trim s.tb.i, trim := Spec.trim s.tb.i } := by
    rw [Timebase.loop_eq]
    simp [htrim]
  have hsteps : s.tb.steps e = true := by rw [Timebase.steps, hentry, decide_eq_true hbig]; rfl
  have htake : takeEdge e period s
      = raiseIf (((stepPt (-e) (s.setTb { s.tb with entry := false })).tb.loop 0 period).countIn 0).2 .lockAcquired
          ((stepPt (-e) (s.setTb { s.tb with entry := false })).setTb
            (((stepPt (-e) (s.setTb { s.tb with entry := false })).tb.loop 0 period).countIn 0).1) := by
    unfold takeEdge
    split
    · next h => rw [hst] at h; cases h
    · next h => rw [hst] at h; cases h
    · simp only [hsteps, if_true]
    · next h => rw [hst] at h; cases h
  rw [htake, htb, hloop, Timebase.countIn_counts (by simpa using hw) (by simp [hin])]
  dsimp only
  rw [hin]
  rfl

/-- The monitor's times after a step by −e (R53). -/
theorem RefMon.moved_back {r : RefMon} {adj : Int} {p : Nat} (hl : r.lastAccepted = some adj) (hx : r.expectedPt = some (adj + p)) (e : Int) :
    r.moved (-e) = { r with lastAccepted := some (adj - e), expectedPt := some (adj - e + p), prev := r.prev.map fun v => v - e } := by
  rw [RefMon.moved, hl, hx]
  simp only [Option.map_some, ← sub_eq_add_neg, show adj + (p : Int) - e = adj - e + p by omega]

end

/-- Settles O31: the accepted edge, and the step that it makes. -/
theorem entryEdgeStepsPictureTime : Obligations.EntryEdgeStepsPictureTime := by
  unfold Obligations.EntryEdgeStepsPictureTime
  intro s c x k h he hst hx hk hcode adj hlo hhi htb hentry hin hw
  refine ⟨halfUp adj (ratePeriod k), phase_halfUp adj (ratePeriod_pos hcode), fun hbig h0 hlt => ?_⟩
  have hexec := exec_refEdge_present h he hst
  rw [presentEdge_inside hx hk hlo hhi] at hexec
  generalize halfUp adj (ratePeriod k) = e at *
  rw [takeEdge_stepped (s := s.setRef (Spec.accepted s.ref adj e (ratePeriod k))) htb hentry hbig hin hw h0 hlt] at hexec
  intro accepted moved
  obtain ⟨v, hv⟩ : ∃ v : State, v = (s.setRef accepted).setTb { s.tb with entry := false } := ⟨_, rfl⟩
  have hvpt : v.tb.pt = s.tb.pt := by rw [hv]; rfl
  have hframe := stepPt_frame (s := v) (e := e) (by rw [hvpt]; exact h0) (by rw [hvpt]; exact hlt)
  have hstepped := stepped_stepPt (s := v) (e := e) (by rw [hvpt]; exact h0) (by rw [hvpt]; exact hlt)
  have hexec' : exec (.refEdge c) s = .next ((stepPt (-e) v).setTb { s.tb with
      pt := ((s.tb.pt : Int) - e).toNat, entry := false, inWin := 1, p := 0, i := Spec.trim s.tb.i, trim := Spec.trim s.tb.i }) := by
    rw [hexec, hv]; rfl
  have hbase : (v.stepBase e).setTb { s.tb with
      pt := ((s.tb.pt : Int) - e).toNat, entry := false, inWin := 1, p := 0, i := Spec.trim s.tb.i, trim := Spec.trim s.tb.i } = moved := by
    have href := RefMon.moved_back (r := v.ref) (adj := adj) (p := ratePeriod k) (by rw [hv]; rfl) (by rw [hv]; rfl) e
    rw [State.stepBase, href, hv]
    rfl
  refine ⟨fun hpos => ?_, fun hneg => ⟨_, hexec', ?_, ?_, ?_⟩⟩
  · rw [hexec', stepPt_backward hpos (by rw [hvpt]; exact h0) (by rw [hvpt]; exact hlt), hbase]
  · refine stepPt_flag (s := v) (e := e) (by rw [hvpt]; exact h0) (by rw [hvpt]; exact hlt) ?_
    rw [State.stepBase, flag_raise, if_pos rfl]
  · refine (congrArg (fun u : State => u.setTb _) hframe).trans ?_
    exact congrArg (fun u : State => { u with
      lanes := (stepPt (-e) v).lanes, devices := (stepPt (-e) v).devices, cues := (stepPt (-e) v).cues, dues := (stepPt (-e) v).dues
      lines := (stepPt (-e) v).lines, attn := (stepPt (-e) v).attn, fps := (stepPt (-e) v).fps, draws := (stepPt (-e) v).draws }) hbase
  · have htb : (stepPt (-e) v).tb.pt = ((s.tb.pt : Int) - e).toNat := by
      rw [hframe, hv]; rfl
    have := stepped_setTb { s.tb with
      pt := ((s.tb.pt : Int) - e).toNat, entry := false, inWin := 1, p := 0, i := Spec.trim s.tb.i, trim := Spec.trim s.tb.i } hstepped
    rw [htb] at this
    rw [hv] at this ⊢
    exact this

end Sys2Proof.Machine
end

section
/-! The edge that completes qualification (R48, R65 to R69). -/

namespace Sys2Proof.Machine

section
variable {s : State} {adj before e : Int} {k : Nat}

/-- The monitor at the edge that completes qualification (R48). -/
def RefMon.complete (r : RefMon) (adj before e : Int) (k : Nat) : RefMon :=
  { r with
    state := .present, house := some k, lastPeriod := adj - before, lastAccepted := some adj
    expectedPt := some (adj + ratePeriod k), misses := 0, lastError := e, prev := none, qualify := 8 }

theorem RefMon.qualified_complete {r : RefMon} (hc : r.candidate = some k) :
    ({ r.measured (adj - before) adj with qualify := 8 } : RefMon).qualified adj = r.complete adj before (halfUp adj (ratePeriod k)) k := by
  simp [RefMon.qualified, RefMon.complete, RefMon.measured, hc]

/-- The state in which the edge that completes qualification goes on to the Timebase (R48, R65). -/
def State.qualifiedAt (s : State) (adj before e : Int) (k : Nat) : State :=
  raise .refQualified { s with ref := s.ref.complete adj before e k, tb := s.tb.refArrived s.selectedCal }

/-- The eighth period completes qualification (R48). -/
theorem qualifyEdge_complete (hp : s.ref.prev = some before) (hc : s.ref.candidate = some k) (hq : s.ref.qualify = 7)
    (hx : s.ref.expected = 0 ∨ s.ref.expected = k) (hf : Spec.fits (adj - before) k) :
    qualifyEdge adj s = takeEdge (halfUp adj (ratePeriod k)) (ratePeriod k) (s.qualifiedAt adj before (halfUp adj (ratePeriod k)) k) := by
  have hjudge : (s.ref.measured (adj - before) adj).judgePeriod (adj - before) = { s.ref.measured (adj - before) adj with qualify := 8 } := by
    rw [RefMon.judgePeriod_fit (r := s.ref.measured (adj - before) adj) hf hx, if_pos (show (s.ref.measured (adj - before) adj).candidate = some k from hc),
      show (s.ref.measured (adj - before) adj).qualify = 7 from hq]
  have hperiod : (s.ref.complete adj before (halfUp adj (ratePeriod k)) k).housePeriod = ratePeriod k := rfl
  rw [qualifyEdge, hp]
  change (if 8 ≤ ((s.ref.measured (adj - before) adj).judgePeriod (adj - before)).qualify then
      completeQualification adj (raiseIf (((s.ref.measured (adj - before) adj).judgePeriod (adj - before)).mismatch && !s.ref.mismatch) .refMismatch
        (s.setRef ((s.ref.measured (adj - before) adj).judgePeriod (adj - before))))
    else _) = _
  rw [hjudge, if_pos (le_refl 8), show ({ s.ref.measured (adj - before) adj with qualify := 8 } : RefMon).mismatch = s.ref.mismatch from rfl,
    Bool.and_not_self, raiseIf, if_neg (by decide), completeQualification]
  dsimp only
  rw [show (s.setRef { s.ref.measured (adj - before) adj with qualify := 8 }).ref = { s.ref.measured (adj - before) adj with qualify := 8 } from rfl,
    RefMon.qualified_complete hc, hperiod]
  rfl

/-- The Timebase as it enters LOCKING from `held` (R65, R66). -/
theorem refArrived_locking (h : s.tb.state = .freerun ∧ s.tb.enable = true ∨ s.tb.state = .holdover) :
    s.tb.refArrived s.selectedCal
      = ({ s.tb with refPresent := true } : Timebase).toLocking (if s.tb.state = .holdover then s.tb.i else s.selectedCal) 0 := by
  unfold Timebase.refArrived
  rcases h with ⟨h, he⟩ | h
  · simp [h, he]
  · simp [h]

/-- The entry edge's update from `held`, its error within the step threshold or 0 after a step (R68). -/
theorem toLocking_loop (t : Timebase) (held : Int) (e : Int) (period : Nat) :
    ({ t.toLocking held 0 with entry := false } : Timebase).loop e period
      = { t with
          state := .locking, entry := false, inWin := 0, outWin := 0, elapsed := 0
          p := -((e * 1000000000).tdiv (16 * period)), i := Spec.trim (held - (e * 1000000000).tdiv (1024 * period))
          trim := Spec.trim (Spec.trim (held - (e * 1000000000).tdiv (1024 * period)) + -((e * 1000000000).tdiv (16 * period))) } := by
  rw [Timebase.loop_eq]; rfl

end

/-- Settles O26: qualification completed, then the edge by the discipline and its error. -/
theorem eighthPeriodMakesTheReferencePresent : Obligations.EighthPeriodMakesTheReferencePresent := by
  unfold Obligations.EighthPeriodMakesTheReferencePresent
  intro s c before k h he hst hp hc hq hx adj hf
  have hpos := ratePeriod_pos hf.1
  refine ⟨halfUp adj (ratePeriod k), phase_halfUp adj hpos, ?_⟩
  have hexec := exec_refEdge_qualifying h he hst
  rw [qualifyEdge_complete (adj := Spec.adjusted s c) hp hc hq hx hf] at hexec
  have hexec : exec (.refEdge c) s
      = .next (takeEdge (halfUp adj (ratePeriod k)) (ratePeriod k) (s.qualifiedAt adj before (halfUp adj (ratePeriod k)) k)) := hexec
  generalize halfUp adj (ratePeriod k) = e at hexec ⊢
  intro ref held locking
  refine ⟨fun hfree hoff => ?_, fun hon => ?_⟩
  · have harrived : s.tb.refArrived s.selectedCal = { s.tb with refPresent := true } := by
      unfold Timebase.refArrived
      simp [hfree, hoff]
    have htake : takeEdge e (ratePeriod k) (s.qualifiedAt adj before e k) = s.qualifiedAt adj before e k := by
      have hstate : (s.qualifiedAt adj before e k).tb.state = .freerun := by
        change (s.tb.refArrived s.selectedCal).state = .freerun
        rw [harrived]; exact hfree
      unfold takeEdge
      rw [hstate]
    rw [hexec, htake, State.qualifiedAt, harrived]
    rfl
  have harrived := refArrived_locking hon
  have htb : (s.qualifiedAt adj before e k).tb = ({ s.tb with refPresent := true } : Timebase).toLocking held 0 := harrived
  have hstate : (s.qualifiedAt adj before e k).tb.state = .locking := by rw [htb]; rfl
  refine ⟨fun hin => ?_, fun hbig hw h0 hlt => ?_⟩
  · have hstep : (s.qualifiedAt adj before e k).tb.steps e = false := by
      rw [htb]
      change (true && decide (s.tb.threshold < |e|)) = false
      rw [Bool.true_and, decide_eq_false (not_lt.mpr hin)]
    have hcount : ∀ t : Timebase, t.inWin = 0 → t.countIn e = ({ t with inWin := if |e| ≤ t.window then 1 else 0 }, false) := fun t ht => by
      split_ifs with hwin
      · rw [Timebase.countIn_counts hwin (by omega), ht]
      · rw [Timebase.countIn_outside (not_le.mp hwin)]
    rw [hexec, takeEdge_locking hstate hstep, htb, toLocking_loop, hcount _ rfl]
    rfl
  · obtain ⟨q, hqd⟩ : ∃ q, q = s.qualifiedAt adj before e k := ⟨_, rfl⟩
    obtain ⟨v, hv⟩ : ∃ v : State, v = q.setTb { q.tb with entry := false } := ⟨_, rfl⟩
    rw [← hqd] at hexec htb hstate
    have hqpt : q.tb.pt = s.tb.pt := by rw [htb]; rfl
    have hvpt : v.tb.pt = s.tb.pt := by rw [hv]; exact hqpt
    rw [takeEdge_stepped hstate (by rw [htb]; rfl) (by rw [htb]; exact hbig) (by rw [htb]; rfl) (by rw [htb]; exact hw) (by rw [hqpt]; exact h0)
      (by rw [hqpt]; exact hlt), ← hv] at hexec
    have hT : ({ q.tb with pt := ((q.tb.pt : Int) - e).toNat, entry := false, inWin := 1, p := 0, i := Spec.trim q.tb.i, trim := Spec.trim q.tb.i } : Timebase)
        = { locking 0 1 with pt := ((s.tb.pt : Int) - e).toNat } := by
      have htrim : Spec.trim (Spec.trim held) = Spec.trim held := by unfold Spec.trim; omega
      rw [hqpt, htb]
      simp [locking, held, Timebase.toLocking, htrim]
    rw [hT] at hexec
    have hframe := stepPt_frame (s := v) (e := e) (by rw [hvpt]; exact h0) (by rw [hvpt]; exact hlt)
    have hstepped := stepped_stepPt (s := v) (e := e) (by rw [hvpt]; exact h0) (by rw [hvpt]; exact hlt)
    have hbase : (v.stepBase e).setTb { locking 0 1 with pt := ((s.tb.pt : Int) - e).toNat }
        = raise .ptStep (raise .refQualified { s with
            tb := { locking 0 1 with pt := ((s.tb.pt : Int) - e).toNat }
            ref := { ref with lastAccepted := some (adj - e), expectedPt := some (adj - e + ratePeriod k) }
            marks := s.marks.map fun m => { m with fifo := m.fifo.map fun q => { q with pt := q.pt - e } }
            devices := s.devices.map (Option.map fun d => { d with ring := d.ring.map fun o => { o with pt := o.pt - e } }) }) := by
      have href := RefMon.moved_back (r := v.ref) (adj := adj) (p := ratePeriod k) (by rw [hv, hqd]; rfl) (by rw [hv, hqd]; rfl) e
      rw [State.stepBase, href, hv, hqd]
      rfl
    refine ⟨_, hexec, ?_, ?_, ?_, ?_⟩
    · refine stepPt_flag (s := v) (e := e) (by rw [hvpt]; exact h0) (by rw [hvpt]; exact hlt) ?_
      refine raise_keeps_set _ ?_
      rw [hv, hqd]
      change ((s.qualifiedAt adj before e k).flag .refQualified).set = true
      rw [State.qualifiedAt, flag_raise, if_pos rfl]
    · refine stepPt_flag (s := v) (e := e) (by rw [hvpt]; exact h0) (by rw [hvpt]; exact hlt) ?_
      rw [State.stepBase, flag_raise, if_pos rfl]
    · have hmarks : (stepPt (-e) v).marks = (v.stepBase e).marks := by rw [hframe]
      have hframe' := hframe.trans (congrArg (fun m => ({ v.stepBase e with
        marks := m, lanes := (stepPt (-e) v).lanes, devices := (stepPt (-e) v).devices, cues := (stepPt (-e) v).cues, dues := (stepPt (-e) v).dues
        lines := (stepPt (-e) v).lines, attn := (stepPt (-e) v).attn, fps := (stepPt (-e) v).fps, draws := (stepPt (-e) v).draws } : State)) hmarks.symm)
      refine (congrArg (fun u : State => u.setTb _) hframe').trans ?_
      exact congrArg (fun u : State => { u with
        marks := (stepPt (-e) v).marks, lanes := (stepPt (-e) v).lanes, devices := (stepPt (-e) v).devices, cues := (stepPt (-e) v).cues
        dues := (stepPt (-e) v).dues, lines := (stepPt (-e) v).lines, attn := (stepPt (-e) v).attn, fps := (stepPt (-e) v).fps
        draws := (stepPt (-e) v).draws }) hbase
    · have hpt : (stepPt (-e) v).tb.pt = ((s.tb.pt : Int) - e).toNat := by rw [hframe, ← hvpt]; rfl
      have := stepped_setTb { locking 0 1 with pt := ((s.tb.pt : Int) - e).toNat } hstepped
      rw [hpt] at this
      rw [hv, hqd] at this ⊢
      exact this

end Sys2Proof.Machine
end

section
/-! Reports that become observations: the record filed, the mark claimed and the re-jam asked for (R110, R123 to R132, R156). -/

namespace Sys2Proof.Machine

/-! ### The observation filed -/

section
variable {d : Device} {t o : Int} {count : Nat} {source : Option Nat}

/-- A quotient rounded to nearest, halves away from zero, in the words of the statements (R20). -/
theorem roundAway_away (num : Int) {den : Int} (hd : 0 ≤ den) : roundAway num den = Spec.away num den := by
  unfold roundAway Spec.away
  rcases lt_trichotomy num 0 with hn | rfl | hn
  · rw [if_neg (by omega), Int.sign_eq_neg_one_of_neg hn, abs_of_neg hn]; ring
  · have hzero : den / (2 * den) = 0 := by
      rcases hd.eq_or_lt with rfl | hpos
      · rfl
      · exact Int.ediv_eq_zero_of_lt hd (by omega)
    simp [hzero]
  · rw [if_pos hn.le, Int.sign_eq_one_of_pos hn, abs_of_pos hn, one_mul]

/-- The offset predicted, from the drift and the newest VALID entry or as last estimated (R126). -/
theorem Device.predict_eq (d : Device) (t : Int) :
    d.predict t = match d.driftEst, Spec.newest d.ring with
      | some v, some b => some (b.offset + Spec.away (v * (t - b.pt)) 1000000000)
      | _, _ => d.offsetEst := by
  unfold Device.predict
  rw [show d.newestValid = Spec.newest d.ring from rfl]
  cases d.driftEst with
  | none => rfl
  | some v => cases Spec.newest d.ring with
    | none => rfl
    | some b => simp only [roundAway_away _ (show (0 : Int) ≤ 1000000000 by decide)]

/-- The drift over the VALID entries, where they span long enough (R128). -/
theorem Device.estimated_driftEst (d : Device) :
    d.estimated.driftEst = match Spec.oldest d.ring, Spec.newest d.ring with
      | some old, some new =>
        if (d.span * 54000000 : Nat) ≤ new.pt - old.pt then
          some (max (-2000000) (min 2000000 (Spec.away ((new.offset - old.offset) * 1000000000) (new.pt - old.pt))))
        else none
      | _, _ => none := by
  change ((Spec.newest d.ring).bind fun new => (Spec.oldest d.ring).bind fun old => d.driftOf old new) = _
  cases Spec.newest d.ring with
  | none => cases Spec.oldest d.ring <;> rfl
  | some new => cases Spec.oldest d.ring with
    | none => rfl
    | some old =>
      have hspan : d.spanTicks = (d.span * 54000000 : Nat) := by rw [Device.spanTicks]; push_cast; rfl
      change d.driftOf old new = if _ then _ else none
      rw [Device.driftOf, hspan]
      split_ifs with h
      · rw [roundAway_away _ (by omega), clampInt_eq (by omega)]
      · rfl

/-- A report filed: its residual, its tag, the ring turned over or not, the estimates and the state (R121, R126 to R129). -/
theorem Device.observed_eq (d : Device) (t : Int) (count : Nat) (o : Int) (source : Option Nat) :
    let predicted := match d.driftEst, Spec.newest d.ring with
      | some v, some b => some (b.offset + Spec.away (v * (t - b.pt)) 1000000000)
      | _, _ => d.offsetEst
    let r := predicted.map fun p => o - p
    let out := r.any fun v => decide (d.outlierLimit < |v|)
    let rebased := out && decide (2 ≤ d.outliers)
    let obs : Obs := { pt := t, count := count, offset := o, residual := r, tag := if out then .outlier else .valid, source := source }
    let ring := (obs :: d.ring).take 8
    let filed := if rebased then ring.mapIdx (fun i (q : Obs) => { q with tag := if i < 3 then Tag.valid else .empty }) else ring
    let drift := match Spec.oldest filed, Spec.newest filed with
      | some old, some new =>
        if (d.span * 54000000 : Nat) ≤ new.pt - old.pt then
          some (max (-2000000) (min 2000000 (Spec.away ((new.offset - old.offset) * 1000000000) (new.pt - old.pt))))
        else none
      | _, _ => none
    let e := { d with
      top := (d.top + 7) % 8, ring := filed, outliers := if out then (if rebased then 0 else d.outliers + 1) else 0
      offsetEst := (Spec.newest filed).map Obs.offset, driftEst := drift, silenceLeft := some (d.silence * 54000000) }
    let st := match drift with
      | none => DeviceState.acquiring
      | some v => if d.offsetTol < |e.offsetEst.getD 0| ∨ d.driftTol < |v| then .outOfTolerance else .tracking
    d.observed t count o source = ({ e with state := st }, rebased)
      ∧ ∃ rest, filed = { obs with tag := if out && !rebased then .outlier else .valid } :: rest := by
  intro predicted r out rebased obs ring filed drift e st
  have hfile : d.file t count o source
      = ({ d with top := (d.top + 7) % 8, ring := filed, outliers := if out then (if rebased then 0 else d.outliers + 1) else 0 }, rebased) := by
    unfold Device.file
    rw [Device.predict_eq]
    change (if out = true then _ else _) = _
    by_cases hout : out = true
    · have hobs : obs = { pt := t, count := count, offset := o, residual := r, tag := .outlier, source := source } := by simp only [obs, if_pos hout]
      by_cases hthree : 2 ≤ d.outliers
      · have hre : rebased = true := by simp [rebased, hout, hthree]
        rw [if_pos hout, if_pos hout, if_pos hre, show filed = _ from if_pos hre, hre]
        simp only [ring, hobs]
        exact if_pos (by omega)
      · have hre : ¬ rebased = true := by simp [rebased, hthree]
        rw [if_pos hout, if_pos hout, if_neg hre, show filed = _ from if_neg hre, Bool.eq_false_iff.mpr hre]
        simp only [ring, hobs]
        exact if_neg (by omega)
    · have hre : ¬ rebased = true := by simp [rebased, hout]
      have hobs : obs = { pt := t, count := count, offset := o, residual := r, tag := .valid, source := source } := by simp only [obs, if_neg hout]
      rw [if_neg hout, if_neg hout, show filed = _ from if_neg hre, Bool.eq_false_iff.mpr hre]
      simp only [ring, hobs]
      rfl
  refine ⟨?_, ?_⟩
  · unfold Device.observed
    rw [hfile]
    obtain ⟨w, hw⟩ : ∃ w : Device, w = { d with
      top := (d.top + 7) % 8, ring := filed, outliers := if out then (if rebased then 0 else d.outliers + 1) else 0 } := ⟨_, rfl⟩
    have hdrift : w.estimated.driftEst = drift := by rw [Device.estimated_driftEst, hw]
    have hest : w.estimated = { w with offsetEst := (Spec.newest w.ring).map Obs.offset, driftEst := drift } := by rw [← hdrift]; rfl
    rw [← hw]
    dsimp only
    rw [hest, hw]
    rfl
  · by_cases hre : rebased = true
    · rw [show filed = _ from if_pos hre, hre, Bool.not_true, Bool.and_false]
      simp only [ring, List.take_succ_cons, List.mapIdx_cons]
      exact ⟨_, rfl⟩
    · rw [show filed = _ from if_neg hre, Bool.eq_false_iff.mpr hre, Bool.not_false, Bool.and_true]
      exact ⟨_, rfl⟩

/-- The reply of a report, the newest observation held (R130). -/
theorem reportFields_eq {l : Lane} {number : Nat} {x : Int} {m : Conds} {b : Obs} {rest : List Obs} (hring : d.ring = b :: rest) :
    reportFields l number t count x o d m
      = [.short number, .ptSigned t, .label (l.labelOf count), .pt x, .ticks o, Spec.bit b.residual.isSome, .ticks (b.residual.getD 0),
          .code b.tag.code, .code d.outliers, Spec.bit d.offsetEst.isSome, .ticks (d.offsetEst.getD 0), Spec.bit d.driftEst.isSome,
          .ppb (d.driftEst.getD 0), .code d.state.code, .code (d.cue.getD 255), Spec.bit m.invalid, Spec.bit m.range] := by
  rw [reportFields, Device.newestFields, hring]
  rfl

end

/-! ### The mark claimed, and the conversion resolved -/

section
variable {s s' : State} {d : Device} {n kind capture pt : Nat} {t : Int} {source : Option Nat} {lab : Label}

/-- A condition noted on a lane does not bear on a claim. -/
theorem stick_claimMark (i : Nat) (m : Conds) (input : Option Nat) (k : Option Mark) (s : State) :
    claimMark input k (stick i m s) = stick i m (claimMark input k s) := by
  cases input with
  | none => rfl
  | some j => cases k with
    | none => rfl
    | some k =>
      simp only [claimMark, stick, raiseIf]
      change _ = if (s.lane i).sticky.newly m = true then _ else _
      split_ifs <;> rfl

/-- A claim changes the marks alone. -/
theorem claimMark_frame (input : Option Nat) (k : Option Mark) (s : State) :
    claimMark input k s = { s with marks := (claimMark input k s).marks } := by
  unfold claimMark
  split <;> rfl

/-- What a device written, with flags raised, leaves as it was. -/
theorem filed_frame {w : State} (hw : Noted s w) (hn : n < 32) (x : Option Device) (i : Nat) (a b : Bool) (f g : Flag) :
    let v := raiseIf b g (raiseIf a f (w.setDevice n x))
    v.cues = s.cues ∧ v.dues = s.dues ∧ v.tb = s.tb ∧ v.device n = x ∧ ∃ y, v.lane i = { s.lane i with sticky := y } := by
  intro v
  have hnoted : Noted (w.setDevice n x) v := (Noted.refl.raiseIf a f).raiseIf b g
  obtain ⟨hcues, hdues, -, hdevices, htb, -⟩ := hnoted.keeps
  obtain ⟨hwcues, hwdues, -, -, hwtb, -⟩ := hw.keeps
  refine ⟨hcues.trans hwcues, hdues.trans hwdues, htb.trans hwtb, ?_, (v.lane i).sticky, ?_⟩
  · rw [State.device, hdevices]
    exact Bank.get_put_same _ hn _ _
  · have hlane := hnoted.lane i
    rw [show (w.setDevice n x).lane i = w.lane i from rfl, hw.lane i] at hlane
    exact hlane

/-- The instant of a report: the mark that it names is found and claimed (R110, R123). -/
theorem instant_claimed (h : Spec.instant s s' d kind capture pt t source) :
    d.refOk kind pt s.tb.pt = true
      ∧ ∃ k, s.namedMark d kind capture = k ∧ (kind = 2 ∨ k.isSome = true) ∧ (k.map Mark.pt).getD (pt : Int) = t ∧ k.map Mark.number = source
        ∧ claimMark d.input k s = s' := by
  rcases h with ⟨hkind, hinput, hpt, rfl, rfl, rfl⟩ | ⟨i, k, before, after, hi, hfifo, hk, rfl, rfl, rfl⟩
  · refine ⟨(refOk_iff _).mpr (Or.inr ⟨hkind, hinput, hpt⟩), none, by rw [State.namedMark, if_pos hkind], Or.inl hkind, rfl, rfl, ?_⟩
    unfold claimMark
    cases d.input <;> rfl
  · have hkind : kind < 2 := by omega
    refine ⟨(refOk_iff _).mpr (Or.inl ⟨hkind, by rw [hi]; exact Option.some_ne_none i⟩), some k, ?_, Or.inr rfl, rfl, rfl, ?_⟩
    · rw [State.namedMark, if_neg (by omega), hi, Option.bind_some, hfifo, findMark_eq hk]
    · rw [hi, claimMark, hfifo, erase_named hk]

/-- What a report does once its label is converted to a count and a PT: the mark is claimed, the observation filed, the reply given. -/
def reportTaken (n : Nat) (d : Device) (l : Lane) (t : Int) (k : Option Mark) (m : Conds) (p : Nat × Nat) (s : State) : State :=
  let x := d.expectedPt l p.2
  let u := fileReport n d t p.1 (t - x) (k.map Mark.number) (claimMark d.input k s)
  Spec.ok u (reportFields l ((k.map Mark.number).getD 0) t p.1 x (t - x) ((u.device n).getD d) m)

/-- A report that is neither refused before its conversion nor ignored (R123). -/
theorem exec_deviceReport_taken (h : s.resetLow = false) (hn : n ≤ 31) (hd : s.device n = some d) (hi : Spec.instant s s' d kind capture pt t source)
    (hlab : (s.lane d.lane).wellFormed lab = true) (hset : s.tb.set = true) (hst : (s.lane d.lane).state ≠ .waiting) (hgo : d.state ≠ .rejamPending)
    (hnew : ∀ o ∈ d.ring.head?, o.pt < t) :
    exec (.deviceReport n lab kind capture pt) s
      = .next (resolved d.lane (reportTaken n d (s.lane d.lane) t (s.namedMark d kind capture)) ((s.lane d.lane).labelToPt true lab 0 t) s) := by
  obtain ⟨href, k, hk, hsome, ht, -, -⟩ := instant_claimed hi
  have hno : ¬ (kind ≠ 2 ∧ k.isNone = true) := by
    rintro ⟨hkind, hnone⟩
    rw [Option.isNone_iff_eq_none.mp hnone] at hsome
    exact hsome.elim hkind (by decide)
  have hign : ¬ (d.state = .rejamPending ∨ (d.ring.head?.any fun o => decide (t ≤ o.pt)) = true) := by
    rintro (hp | hany)
    · exact hgo hp
    · obtain ⟨o, ho, hle⟩ := (Option.any_eq_true _ _).mp hany
      exact absurd (hnew o ho) (not_lt.mpr (of_decide_eq_true hle))
  rw [exec, execDeviceReport, request_live h, withDevice_some _ hn hd]
  simp only [href, hlab, hset, Bool.not_true, Bool.false_eq_true, if_false, if_neg hst, hk, if_neg hno, ht, if_neg hign]
  cases (s.lane d.lane).labelToPt true lab 0 t with
  | stopped m c => rfl
  | done m p => simp only [stick_claimMark, resolved, reportTaken]; rfl

/-- The label taken, the next existing one where the label named does not exist, is that of its count (R7, R21). -/
theorem Lane.labelOf_taken {l : Lane} (h : l.rateOk) (hlab : l.wellFormed lab = true) :
    l.labelOf (l.countOf (if !l.labelExists lab then Spec.raised l lab else lab)) = if !l.labelExists lab then Spec.raised l lab else lab := by
  split_ifs with hex
  · obtain ⟨hwf, hnext⟩ := Lane.nextExisting_ok h hlab (Bool.not_eq_true' _ |>.mp hex)
    exact (Lane.count_of_label h hwf hnext).2
  · exact (Lane.count_of_label h hlab (by simpa using hex)).2

/-- NEAREST of a label, as two judged conditions: INVALID, then RANGE (R14, R21, R22). -/
theorem Lane.labelToPt_near {l : Lane} (hlab : l.wellFormed lab = true) (t : Int) :
    l.labelToPt true lab 0 t
      = (l.judge (!l.labelExists lab) .invalid (if !l.labelExists lab then Spec.raised l lab else lab)).bind fun x =>
          (l.judge (decide (l.nearestOccurrence (l.countOf x) 0 t < 0 ∨ 2 ^ 64 ≤ l.nearestOccurrence (l.countOf x) 0 t)) .range
            (Spec.clampPt (l.nearestOccurrence (l.countOf x) 0 t)).toNat).bind fun p => .done .none (l.countOf x, p) := by
  rw [Lane.labelToPt, Lane.bring_judge hlab]
  simp only [if_true, Lane.checkPt_judge]

end

/-! ### The re-jam asked for -/

section
variable {v : State} {n : Nat} {e : Device}

/-- Nothing is asked for in tolerance, without REJAM, or with a cue owned (R132). -/
theorem askRejam_quiet (hd : v.device n = some e) (h : e.state ≠ .outOfTolerance ∨ e.rejam = none ∨ e.cue.isSome = true) : askRejam n v = v := by
  rw [askRejam, hd]
  dsimp only
  cases hr : e.rejam with
  | none => rfl
  | some r => exact if_pos (h.imp_right fun h => h.resolve_left (by rw [hr]; exact Option.some_ne_none r))

/-- A full cue table is reported (R132). -/
theorem askRejam_full (hd : v.device n = some e) (hst : e.state = .outOfTolerance) (hr : e.rejam.isSome = true) (hc : e.cue = none)
    (hfull : ∀ slot < 64, (v.cue slot).isSome = true) : askRejam n v = raise .cueTableFull v := by
  obtain ⟨r, hr⟩ := Option.isSome_iff_exists.mp hr
  have hnone : v.freeCue = none := by
    rw [State.freeCue, List.find?_eq_none]
    intro slot hslot
    simpa [Option.isSome_iff_ne_none] using hfull slot (by simpa [slots] using hslot)
  rw [askRejam, hd]
  dsimp only
  rw [hr]
  dsimp only
  rw [if_neg (by rw [hst, hc]; decide), hnone]

/-- The lowest FREE slot is the one that the statements name. -/
theorem freeCue_of {slot : Nat} (hlt : slot < 64) (hfree : v.cue slot = none) (hlow : ∀ i < slot, (v.cue i).isSome = true) : v.freeCue = some slot := by
  rw [State.freeCue, slots, List.find?_range_eq_some]
  exact ⟨by rw [hfree]; rfl, List.mem_range.mpr hlt, fun i hi => by simpa [Option.isSome_iff_ne_none] using hlow i hi⟩

/-- The label of an index less than a day ahead comes next at that index (R13, R14). -/
theorem Lane.next_ahead {l : Lane} (h : l.rateOk) {j : Int} {r : Nat} (hge : (r : Int) ≤ Spec.place l j 0) (hlt : j < ((r : Int) - l.phase) / l.period + l.nDay) :
    Spec.next l (Spec.count l j) 0 r (Spec.place l j 0) := by
  have hday : (0 : Int) < l.nDay := by exact_mod_cast h.nDay_pos
  have hper : (0 : Int) < l.period := by have := h.period_ge; omega
  have hcount : (Spec.count l j : Int) = (l.map.c0 + (j - l.map.k0)) % l.nDay := by
    rw [Spec.count, Int.toNat_of_nonneg (Int.emod_nonneg _ hday.ne')]
  have hback : ((Spec.count l j : Int) - l.map.c0) % l.nDay = (j - l.map.k0) % l.nDay := by
    rw [hcount, Int.emod_sub_emod, add_sub_cancel_left]
  refine ⟨⟨(j - l.map.k0) / l.nDay, ?_⟩, hge, ?_⟩
  · have := Int.emod_add_mul_ediv (j - l.map.k0) l.nDay
    rw [hback, show l.map.k0 + (j - l.map.k0) % l.nDay + (j - l.map.k0) / l.nDay * l.nDay = j by rw [mul_comm _ (l.nDay : Int)]; omega]
  · have hfloor := Int.ediv_mul_le ((r : Int) - l.phase) hper.ne'
    have hstep : j * l.period ≤ (((r : Int) - l.phase) / l.period + l.nDay - 1) * l.period := Int.mul_le_mul_of_nonneg_right (by omega) hper.le
    rw [sub_mul, add_mul, one_mul] at hstep
    rw [Spec.place]
    omega

/-- A day has many more labels than two seconds and four frames (R6). -/
theorem Lane.rateOk.short_of_day {l : Lane} (h : l.rateOk) : 2 * l.base + 4 ≤ l.nDay := by
  have hbase := h.base_pos
  unfold Lane.nDay
  split_ifs with hdf
  · rcases h.drop hdf with ⟨-, hb⟩ | ⟨-, hb⟩ <;> omega
  · rcases h.drop hdf with ⟨-, hb⟩ | ⟨-, hb⟩ <;> omega
  · omega

/-- The re-jam's label is the first of its kind two frames on or later, and comes within the day (R132). -/
theorem Lane.rejamIndex_first {l : Lane} (h : l.rateOk) {j : Int} {pt : Nat} (hge : ((pt : Int) - l.phase) / l.period + 2 ≤ j)
    (hlt : j < ((pt : Int) - l.phase) / l.period + 2 + 2 * l.base + 2) (hff : (l.labelOf (Spec.count l j)).ff = 0)
    (hfirst : ∀ i, ((pt : Int) - l.phase) / l.period + 2 ≤ i → i < j → (l.labelOf (Spec.count l i)).ff ≠ 0) :
    l.rejamIndex pt = j ∧ Spec.next l (Spec.count l j) 0 pt (Spec.place l j 0) := by
  have hday := h.short_of_day
  refine ⟨?_, Lane.next_ahead h ?_ (by omega)⟩
  · have hsearch : l.searchFrom (fun lab => lab.ff == 0) (2 * l.base + 2) (((pt : Int) - l.phase) / l.period + 2) = some j :=
      Lane.searchFrom_first hge (by push_cast; omega) (beq_iff_eq.mpr hff) fun i h1 h2 => beq_eq_false_iff_ne.mpr (hfirst i h1 h2)
    rw [Lane.rejamIndex, Lane.indexAt, hsearch]
    rfl
  · have hper : (0 : Int) < l.period := by have := h.period_ge; omega
    have hfloor := Int.lt_ediv_add_one_mul_self ((pt : Int) - l.phase) hper
    have hstep : (((pt : Int) - l.phase) / l.period + 1) * l.period ≤ j * l.period := Int.mul_le_mul_of_nonneg_right (by omega) hper.le
    rw [Spec.place]
    omega

/-- The cue of a re-jam, set up under the mapping held: its due, or none while the lane is held or releasing (R144, R156). -/
theorem firstDue_rejam {i : Nat} {c : Cue} {j : Int} (hset : v.tb.set = true) (hr : (v.lane i).rateOk) (hst : (v.lane i).state.mapped = true)
    (ha : c.anchor = .label i ((v.lane i).labelOf (Spec.count (v.lane i) j)) 0)
    (hnext : Spec.next (v.lane i) (Spec.count (v.lane i) j) 0 v.tb.pt (Spec.place (v.lane i) j 0)) (hlt : Spec.place (v.lane i) j 0 < 2 ^ 64) :
    v.firstDue c = .done .none ({ c with current := some (Spec.count (v.lane i) j : Int) },
      if (v.lane i).state = .running then some (Spec.place (v.lane i) j 0).toNat else none) := by
  obtain ⟨hwf, hex, hcount⟩ := Lane.labelAt_ok hr j
  have hwild := Lane.wellFormed_not_wild hwf
  rw [Lane.countAt_eq] at hcount
  change patternWild ((v.lane i).labelOf (Spec.count (v.lane i) j)) = false at hwild
  have hpat : (v.lane i).patternExists ((v.lane i).labelOf (Spec.count (v.lane i) j)) = true := by
    rw [Lane.patternExists, show (v.lane i).labelExists ((v.lane i).labelOf (Spec.count (v.lane i) j)) = true from hex, Bool.or_true]
  have hpos : (0 : Int) ≤ Spec.place (v.lane i) j 0 := (Int.natCast_nonneg _).trans hnext.2.1
  have hfirst := firstDue_label (s := v) ha
  simp only [hpat, Bool.not_true, Bool.false_eq_true, if_false, hwild] at hfirst
  have hdue : Spec.due v (.label i ((v.lane i).labelOf (Spec.count (v.lane i) j)) 0) (some (Spec.count (v.lane i) j : Int)) v.tb.pt
      (Spec.place (v.lane i) j 0) (some (Spec.count (v.lane i) j : Int)) :=
    ⟨fun hany => absurd (patternWild_iff.mpr hany) (by rw [hwild]; decide), fun _ => ⟨_, rfl, hnext, rfl⟩⟩
  rw [hfirst, Lane.judge, if_neg (by decide), Conv.none_bind,
    show (v.lane i).countOf ((v.lane i).labelOf (Spec.count (v.lane i) j)) = Spec.count (v.lane i) j from hcount,
    dueFor_mapped (lane := i) hset rfl hst hr hdue]
  rw [show Spec.whole v _ _ _ = true from rfl, Lane.judge, if_neg (by decide), Conv.none_bind,
    Lane.judge, if_neg (by rw [decide_eq_true_eq]; omega), Conv.none_bind]
  have hclamp : Spec.clampPt (Spec.place (v.lane i) j 0) = Spec.place (v.lane i) j 0 := by unfold Spec.clampPt; omega
  rw [hclamp, ← ha]

/-- A re-jam asked for on a lane whose mapping is in force: the lowest FREE slot holds the device's PULSE (R132, R156). -/
theorem askRejam_asks {slot line w : Nat} {j : Int} (hd : v.device n = some e) (hst : e.state = .outOfTolerance) (hr : e.rejam = some (line, w))
    (hc : e.cue = none) (hlt : slot < 64) (hfree : v.cue slot = none) (hlow : ∀ i < slot, (v.cue i).isSome = true) (hdues : slot ∉ v.dues)
    (hset : v.tb.set = true) (hrate : (v.lane e.lane).rateOk) (hmapped : (v.lane e.lane).state.mapped = true)
    (hge : ((v.tb.pt : Int) - (v.lane e.lane).phase) / (v.lane e.lane).period + 2 ≤ j)
    (hnear : j < ((v.tb.pt : Int) - (v.lane e.lane).phase) / (v.lane e.lane).period + 2 + 2 * (v.lane e.lane).base + 2)
    (hff : ((v.lane e.lane).labelOf (Spec.count (v.lane e.lane) j)).ff = 0)
    (hfirst : ∀ i, ((v.tb.pt : Int) - (v.lane e.lane).phase) / (v.lane e.lane).period + 2 ≤ i → i < j →
      ((v.lane e.lane).labelOf (Spec.count (v.lane e.lane) i)).ff ≠ 0)
    (hrange : Spec.place (v.lane e.lane) j 0 < 2 ^ 64) :
    let q : Cue := { rejamCue n e line w ((v.lane e.lane).labelOf (Spec.count (v.lane e.lane) j)) with
      current := some (Spec.count (v.lane e.lane) j) }
    let due := (Spec.place (v.lane e.lane) j 0).toNat
    let asked := v.setDevice n (some { e with state := .rejamPending, silenceLeft := none, cue := some slot })
    ((v.lane e.lane).state = .running →
        askRejam n v = { asked.setCue slot (some { q with state := .waiting, due := some due }) with dues := Spec.enter v slot due })
      ∧ ((v.lane e.lane).state = .held ∨ (v.lane e.lane).state = .releasing → askRejam n v = asked.setCue slot (some q)) := by
  intro q due asked
  obtain ⟨hindex, hnext⟩ := Lane.rejamIndex_first hrate hge hnear hff hfirst
  have hasked : ∀ u m, admitCue slot (rejamCue n e line w ((v.lane e.lane).labelAt j)) v = (u, m, none) →
      askRejam n v = u.setDevice n (some { e with state := .rejamPending, silenceLeft := none, cue := some slot }) := fun u m hu => by
    rw [askRejam, hd]
    dsimp only
    rw [hr]
    dsimp only
    rw [if_neg (by rw [hst, hc]; decide), freeCue_of hlt hfree hlow]
    dsimp only
    rw [hindex, hu]
  have hdue := firstDue_rejam (c := rejamCue n e line w ((v.lane e.lane).labelAt j)) hset hrate hmapped rfl hnext hrange
  refine ⟨fun hrun => ?_, fun hrun => ?_⟩
  · rw [if_pos hrun] at hdue
    have hadmit : admitCue slot (rejamCue n e line w ((v.lane e.lane).labelAt j)) v = (setDue slot { q with state := .waiting } due v, .none, none) := by
      rw [admitCue, hdue]
      change (setDue slot _ due (stick e.lane .none v), _, _) = _
      rw [stick_none]
      rfl
    have hnow : ¬ due < v.tb.pt := by
      have := hnext.2.1
      simp only [due]
      omega
    have hput : setDue slot { q with state := .waiting } due v
        = { v.setCue slot (some { q with state := .waiting, due := some due }) with dues := Spec.enter v slot due } := by
      rw [setDue, enterDues_eq .refl hdues]
      exact if_neg hnow
    rw [hasked _ _ hadmit, hput]
    rfl
  · rw [if_neg (by rcases hrun with hrun | hrun <;> rw [hrun] <;> decide)] at hdue
    have hadmit : admitCue slot (rejamCue n e line w ((v.lane e.lane).labelAt j)) v = (v.setCue slot (some q), .none, none) := by
      rw [admitCue, hdue]
      change ((stick e.lane .none v).setCue slot _, _, _) = _
      rw [stick_none]
      rfl
    rw [hasked _ _ hadmit]
    rfl

end

/-- Settles O48: the report resolved over its two conditions, the record filed, and the re-jam by what the device asks for. -/
theorem reportsBecomeObservations : Obligations.ReportsBecomeObservations := by
  unfold Obligations.ReportsBecomeObservations
  intro s s' n d lab kind capture pt t source h hn hd l cmd hi hlab hset hst hrate _ hgo hnew inv taken
  have hwait : l.state ≠ .waiting := fun hw => by rw [hw] at hst; cases hst
  obtain ⟨-, k, hk, -, -, hsource, hclaim⟩ := instant_claimed hi
  have hrun : exec cmd s = _ := exec_deviceReport_taken h hn hd hi hlab hset hwait hgo hnew
  rw [Lane.labelToPt_near hlab, hk] at hrun
  have hinvalid := resolved_judge (i := d.lane) (l := l) (b := inv) (c := .invalid) (reportTaken n d l t k)
    (fun x => (l.judge (decide (l.nearestOccurrence (l.countOf x) 0 t < 0 ∨ 2 ^ 64 ≤ l.nearestOccurrence (l.countOf x) 0 t)) .range
      (Spec.clampPt (l.nearestOccurrence (l.countOf x) 0 t)).toNat).bind fun p => .done .none (l.countOf x, p)) taken s
  refine ⟨fun hb hm => ?_, fun hmasked => ?_⟩
  · rw [hrun]
    refine congrArg Host.Outcome.next ((hinvalid.1 hb hm).trans ?_)
    rw [Spec.stuckIf, if_pos hb]
    rfl
  obtain ⟨x, hx⟩ : ∃ x, x = l.nearestOccurrence (l.countOf taken) 0 t := ⟨_, rfl⟩
  obtain ⟨hplace, hlow, hhigh⟩ := Lane.nearestOccurrence_spec hrate (l.countOf taken) 0 t
  have hrun := hrun.trans (congrArg Host.Outcome.next (hinvalid.2 hmasked))
  simp only [← hx] at hplace hlow hhigh hrun
  refine ⟨x, hplace, hlow, hhigh, ?_⟩
  intro far sticking
  have hfar := resolved_judge (i := d.lane) (l := l) (b := far) (c := .range)
    (fun m r => reportTaken n d l t k ((if inv then Cond.invalid.only else .none).or m) r)
    (fun p => .done .none (l.countOf taken, p)) (Spec.clampPt x).toNat (Spec.stuckIf inv s d.lane .invalid)
  refine ⟨fun hb hm => hrun.trans (congrArg Host.Outcome.next (hfar.1 hb hm)), fun hranged => ?_⟩
  have hrun := hrun.trans (congrArg Host.Outcome.next ((hfar.2 hranged).trans (resolved_done _ _ _)))
  intro expected o predicted r out rebased obs ring filed drift e st u v t' fields
  have htaken : l.labelOf (l.countOf taken) = taken := Lane.labelOf_taken hrate hlab
  have hexpected : d.expectedPt l (Spec.clampPt x).toNat = expected := by rw [Device.expectedPt, clampPt_cast]
  have hobserved : d.observed t (l.countOf taken) o source = ({ e with state := st }, rebased)
      ∧ ∃ rest, filed = { obs with tag := if out && !rebased then .outlier else .valid } :: rest := d.observed_eq t (l.countOf taken) o source
  obtain ⟨hobs, rest, hfiled⟩ := hobserved
  have hering : e.ring = filed := rfl
  have hedrift : e.driftEst = drift := rfl
  have helane : e.lane = d.lane := rfl
  have herejam : e.rejam = d.rejam := rfl
  have hecue : e.cue = d.cue := rfl
  clear_value st e drift filed rebased
  have hnoted : Noted s' (sticking s') := by
    simp only [sticking, stuckIf_eq]
    exact (Noted.refl.stick _ _).stick _ _
  have hclaimed : claimMark d.input k (sticking s) = sticking s' := by
    simp only [sticking, stuckIf_eq, stick_claimMark, hclaim]
  have ht' : t' = raiseIf (decide (st = .outOfTolerance ∧ d.state ≠ .outOfTolerance)) .deviceTolerance (raiseIf rebased .deviceStep u) := by
    simp only [t', v, raiseIf, decide_eq_true_eq]
  have hfile : fileReport n d t (l.countOf taken) (t - expected) source (sticking s') = askRejam n t' := by
    rw [fileReport, ht', hobs]
  obtain ⟨hcues, hdues, htb, hdev, y, hy⟩ := filed_frame hnoted (show n < 32 by omega) (some { e with state := st }) d.lane rebased
    (decide (st = .outOfTolerance ∧ d.state ≠ .outOfTolerance)) .deviceStep .deviceTolerance
  rw [← ht'] at hcues hdues htb hdev hy
  have hmarks := claimMark_frame d.input k s
  rw [hclaim] at hmarks
  rw [hmarks] at hcues hdues htb hy
  have hreply : ∀ w D st' c, askRejam n t' = w → w.device n = some D → D.ring = filed → D.outliers = e.outliers → D.offsetEst = e.offsetEst →
      D.driftEst = drift → D.state = st' → D.cue = c → exec cmd s = .next (Spec.ok w (fields st' c)) := by
    intro w D st' c hw hD h1 h2 h3 h4 h5 h6
    rw [hrun]
    refine congrArg Host.Outcome.next ?_
    rw [reportTaken]
    dsimp only
    rw [hclaimed, hexpected, hsource, hfile, hw, hD, Option.getD_some, reportFields_eq (h1.trans hfiled), htaken, met_invalid_range, h2, h3, h4, h5, h6]
    simp only [fields]
    cases out && !rebased <;> rfl
  refine ⟨fun hquiet => ?_, fun hout hpolicy hnone hfull => ?_, ?_⟩
  · exact hreply _ _ _ _ (askRejam_quiet hdev (by rwa [← herejam, ← hecue] at hquiet)) hdev hering rfl rfl hedrift rfl hecue
  · refine hreply _ _ _ _ (askRejam_full hdev hout (by rw [← herejam] at hpolicy; exact hpolicy) (hecue.trans hnone) fun slot hlt => ?_)
      hdev hering rfl rfl hedrift rfl (hecue.trans hnone)
    rw [State.cue, hcues]
    exact hfull slot hlt
  · intro slot hlt line w j hout hpolicy hnone hfree hnot hlow first hge hnear hff hfirst hrange due q asked
    have hl : t'.lane ({ e with state := st } : Device).lane = { l with sticky := y } := (congrArg t'.lane helane).trans hy
    have hdev' : ∀ (w : State), w.devices = (t'.setDevice n (some { e with state := .rejamPending, silenceLeft := none, cue := some slot })).devices →
        w.device n = some { e with state := .rejamPending, silenceLeft := none, cue := some slot } := fun w hw => by
      rw [State.device, hw]
      exact Bank.get_put_same _ (by omega) _ _
    have hasks := askRejam_asks (j := j) hdev hout (herejam.trans hpolicy) (hecue.trans hnone) hlt (by rw [State.cue, hcues]; exact hfree)
      (fun i hi => by rw [State.cue, hcues]; exact hlow i hi) (by rw [hdues]; exact hnot) (by rw [htb]; exact hset) (by rw [hl]; exact hrate)
      (by rw [hl]; exact hst) (by rw [hl, htb]; exact hge) (by rw [hl, htb]; exact hnear) (by rw [hl]; exact hff)
      (by rw [hl, htb]; exact hfirst) (by rw [hl]; exact hrange)
    rw [hl] at hasks
    obtain ⟨hrunning, hheld⟩ := hasks
    refine ⟨fun hr => hreply _ _ _ _ ((hrunning hr).trans ?_) (hdev' _ rfl) hering rfl rfl hedrift rfl rfl,
      fun hr => hreply _ _ _ _ ((hheld hr).trans ?_) (hdev' _ rfl) hering rfl rfl hedrift rfl rfl⟩
    · simp only [q, asked, rejamCue, helane, Spec.enter, dueOf_congr hcues, hdues]
      rfl
    · simp only [q, asked, rejamCue, helane]
      rfl

end Sys2Proof.Machine
end
